-- ==== Sys2Proof/Word.lean ====
section
/-! DEFINITION. The word types of the DNP3 frame parser (00_scope.md R12, 10_state.md R22): unsigned values of a
stated width, nothing signed (R10, R100). -/

namespace Sys2Proof

/-- One bit: a one-bit record register or field (R22). -/
abbrev Bit := BitVec 1

/-- A byte is 8 bits (R12); bit 0 is the least significant (R8). -/
abbrev Byte := BitVec 8

/-- A 16-bit value: the start marker, an address or the crc (R22). -/
abbrev Half := BitVec 16

end Sys2Proof
end

