-- ==== Sys2Proof/Syntax.lean ====
section
/-! DEFINITION. The instruction syntax: one constructor per row of spec/opcode_table.json, and the code spaces (the
table's "format" column) the rows belong to. -/

namespace Sys2Proof

/-- Where a row's selecting bits stand (the table's "format" column; 30_encoding.md R105, R107). A bare byte does not
say which space it belongs to: CMD, STAGE, the link control byte and the application function byte are different
places. -/
inductive Space where
  /-- The CMD register of HOST (10_state.md R33). -/
  | hostCmd
  /-- Frame bytes 0 and 1, big-endian: the start marker (R62, R107). -/
  | marker
  /-- The sequencer's STAGE code (10_state.md R30): what selects the operations that have no bit pattern (R107). -/
  | stage
  /-- The link control byte, frame byte 3 (R91). -/
  | linkCtrl
  /-- The application function byte, frame byte 12 (R94). -/
  | appFc
  deriving DecidableEq, Repr

/-- The rows of spec/opcode_table.json. The operations take their operands from the registers and the frame buffer,
as their rules list them (R130, R140, R160, R170, R301), so they carry none; a link code row carries the three free bits
DIR, FCB and FCV of its control byte (R208), and the default application row carries the byte it was selected by
(R279). -/
inductive Instr where
  /-- START, the host command (45_control.md R301). -/
  | start
  /-- VALIDATE, the frame validator (40_validate.md R130). -/
  | validate
  /-- LINK, the data link layer decoder (41_link.md R140). -/
  | link
  /-- TRANSPORT, the transport layer decoder (42_transport.md R160). -/
  | transport
  /-- APP, the application layer decoder (43_application.md R170). -/
  | app
  /-- LPF_00: primary link function code 0 (R210). -/
  | lpf00 (dir fcb fcv : Bit)
  /-- LPF_01: primary link function code 1 (R211). -/
  | lpf01 (dir fcb fcv : Bit)
  /-- LPF_02: primary link function code 2 (R212). -/
  | lpf02 (dir fcb fcv : Bit)
  /-- LPF_03: primary link function code 3 (R213). -/
  | lpf03 (dir fcb fcv : Bit)
  /-- LPF_04: primary link function code 4 (R214). -/
  | lpf04 (dir fcb fcv : Bit)
  /-- LPF_05: primary link function code 5 (R215). -/
  | lpf05 (dir fcb fcv : Bit)
  /-- LPF_06: primary link function code 6 (R216). -/
  | lpf06 (dir fcb fcv : Bit)
  /-- LPF_07: primary link function code 7 (R217). -/
  | lpf07 (dir fcb fcv : Bit)
  /-- LPF_08: primary link function code 8 (R218). -/
  | lpf08 (dir fcb fcv : Bit)
  /-- LPF_09: primary link function code 9 (R219). -/
  | lpf09 (dir fcb fcv : Bit)
  /-- LPF_10: primary link function code 10 (R220). -/
  | lpf10 (dir fcb fcv : Bit)
  /-- LPF_11: primary link function code 11 (R221). -/
  | lpf11 (dir fcb fcv : Bit)
  /-- LPF_12: primary link function code 12 (R222). -/
  | lpf12 (dir fcb fcv : Bit)
  /-- LPF_13: primary link function code 13 (R223). -/
  | lpf13 (dir fcb fcv : Bit)
  /-- LPF_14: primary link function code 14 (R224). -/
  | lpf14 (dir fcb fcv : Bit)
  /-- LPF_15: primary link function code 15 (R225). -/
  | lpf15 (dir fcb fcv : Bit)
  /-- LSF_00: secondary link function code 0 (R226). -/
  | lsf00 (dir fcb fcv : Bit)
  /-- LSF_01: secondary link function code 1 (R227). -/
  | lsf01 (dir fcb fcv : Bit)
  /-- LSF_02: secondary link function code 2 (R228). -/
  | lsf02 (dir fcb fcv : Bit)
  /-- LSF_03: secondary link function code 3 (R229). -/
  | lsf03 (dir fcb fcv : Bit)
  /-- LSF_04: secondary link function code 4 (R230). -/
  | lsf04 (dir fcb fcv : Bit)
  /-- LSF_05: secondary link function code 5 (R231). -/
  | lsf05 (dir fcb fcv : Bit)
  /-- LSF_06: secondary link function code 6 (R232). -/
  | lsf06 (dir fcb fcv : Bit)
  /-- LSF_07: secondary link function code 7 (R233). -/
  | lsf07 (dir fcb fcv : Bit)
  /-- LSF_08: secondary link function code 8 (R234). -/
  | lsf08 (dir fcb fcv : Bit)
  /-- LSF_09: secondary link function code 9 (R235). -/
  | lsf09 (dir fcb fcv : Bit)
  /-- LSF_10: secondary link function code 10 (R236). -/
  | lsf10 (dir fcb fcv : Bit)
  /-- LSF_11: secondary link function code 11 (R237). -/
  | lsf11 (dir fcb fcv : Bit)
  /-- LSF_12: secondary link function code 12 (R238). -/
  | lsf12 (dir fcb fcv : Bit)
  /-- LSF_13: secondary link function code 13 (R239). -/
  | lsf13 (dir fcb fcv : Bit)
  /-- LSF_14: secondary link function code 14 (R240). -/
  | lsf14 (dir fcb fcv : Bit)
  /-- LSF_15: secondary link function code 15 (R241). -/
  | lsf15 (dir fcb fcv : Bit)
  /-- AFC_000: application function code 0 (R242). -/
  | afc000
  /-- AFC_001: application function code 1 (R243). -/
  | afc001
  /-- AFC_002: application function code 2 (R244). -/
  | afc002
  /-- AFC_003: application function code 3 (R245). -/
  | afc003
  /-- AFC_004: application function code 4 (R246). -/
  | afc004
  /-- AFC_005: application function code 5 (R247). -/
  | afc005
  /-- AFC_006: application function code 6 (R248). -/
  | afc006
  /-- AFC_007: application function code 7 (R249). -/
  | afc007
  /-- AFC_008: application function code 8 (R250). -/
  | afc008
  /-- AFC_009: application function code 9 (R251). -/
  | afc009
  /-- AFC_010: application function code 10 (R252). -/
  | afc010
  /-- AFC_011: application function code 11 (R253). -/
  | afc011
  /-- AFC_012: application function code 12 (R254). -/
  | afc012
  /-- AFC_013: application function code 13 (R255). -/
  | afc013
  /-- AFC_014: application function code 14 (R256). -/
  | afc014
  /-- AFC_015: application function code 15 (R257). -/
  | afc015
  /-- AFC_016: application function code 16 (R258). -/
  | afc016
  /-- AFC_017: application function code 17 (R259). -/
  | afc017
  /-- AFC_018: application function code 18 (R260). -/
  | afc018
  /-- AFC_019: application function code 19 (R261). -/
  | afc019
  /-- AFC_020: application function code 20 (R262). -/
  | afc020
  /-- AFC_021: application function code 21 (R263). -/
  | afc021
  /-- AFC_022: application function code 22 (R264). -/
  | afc022
  /-- AFC_023: application function code 23 (R265). -/
  | afc023
  /-- AFC_024: application function code 24 (R266). -/
  | afc024
  /-- AFC_025: application function code 25 (R267). -/
  | afc025
  /-- AFC_026: application function code 26 (R268). -/
  | afc026
  /-- AFC_027: application function code 27 (R269). -/
  | afc027
  /-- AFC_028: application function code 28 (R270). -/
  | afc028
  /-- AFC_029: application function code 29 (R271). -/
  | afc029
  /-- AFC_030: application function code 30 (R272). -/
  | afc030
  /-- AFC_031: application function code 31 (R273). -/
  | afc031
  /-- AFC_032: application function code 32 (R274). -/
  | afc032
  /-- AFC_033: application function code 33 (R275). -/
  | afc033
  /-- AFC_129: application function code 129 (R276). -/
  | afc129
  /-- AFC_130: application function code 130 (R277). -/
  | afc130
  /-- AFC_131: application function code 131 (R278). -/
  | afc131
  /-- AFC_UNASSIGNED: the default application row (R279). -/
  | afcUnassigned (code : Byte)
  deriving DecidableEq, Repr

end Sys2Proof
end

