-- ==== Sys2Proof/WellFormed.lean ====
section
/-! DEFINITION. Which instruction terms stand for some word of the tables. The widths of the operands are in their
types, so only the application rows need a check: a named row stands for its code where the table names that code, and
the default row for every other code. -/

namespace Sys2Proof

/-- A code the application table has a named row for: 0 to 33 and 129 to 131 (44_code_tables.md R205). -/
def inAppRange (code : Byte) : Bool :=
  code.toNat ≤ 33 || (129 ≤ code.toNat && code.toNat ≤ 131)

/-- Well-formed terms of a build whose table names the codes `named` (APP_NAMED). AFC_nnn stands for its code where it is
named; AFC_UNASSIGNED for every code outside the two ranges and every code in them that is not named (R105 c, R279). -/
def Instr.wellFormedIn (named : Byte → Bool) : Instr → Bool
  | .afcUnassigned code => !(inAppRange code && named code)
  | .start => true
  | .validate => true
  | .link => true
  | .transport => true
  | .app => true
  | .lpf00 _ _ _ => true
  | .lpf01 _ _ _ => true
  | .lpf02 _ _ _ => true
  | .lpf03 _ _ _ => true
  | .lpf04 _ _ _ => true
  | .lpf05 _ _ _ => true
  | .lpf06 _ _ _ => true
  | .lpf07 _ _ _ => true
  | .lpf08 _ _ _ => true
  | .lpf09 _ _ _ => true
  | .lpf10 _ _ _ => true
  | .lpf11 _ _ _ => true
  | .lpf12 _ _ _ => true
  | .lpf13 _ _ _ => true
  | .lpf14 _ _ _ => true
  | .lpf15 _ _ _ => true
  | .lsf00 _ _ _ => true
  | .lsf01 _ _ _ => true
  | .lsf02 _ _ _ => true
  | .lsf03 _ _ _ => true
  | .lsf04 _ _ _ => true
  | .lsf05 _ _ _ => true
  | .lsf06 _ _ _ => true
  | .lsf07 _ _ _ => true
  | .lsf08 _ _ _ => true
  | .lsf09 _ _ _ => true
  | .lsf10 _ _ _ => true
  | .lsf11 _ _ _ => true
  | .lsf12 _ _ _ => true
  | .lsf13 _ _ _ => true
  | .lsf14 _ _ _ => true
  | .lsf15 _ _ _ => true
  | .afc000 => named 0
  | .afc001 => named 1
  | .afc002 => named 2
  | .afc003 => named 3
  | .afc004 => named 4
  | .afc005 => named 5
  | .afc006 => named 6
  | .afc007 => named 7
  | .afc008 => named 8
  | .afc009 => named 9
  | .afc010 => named 10
  | .afc011 => named 11
  | .afc012 => named 12
  | .afc013 => named 13
  | .afc014 => named 14
  | .afc015 => named 15
  | .afc016 => named 16
  | .afc017 => named 17
  | .afc018 => named 18
  | .afc019 => named 19
  | .afc020 => named 20
  | .afc021 => named 21
  | .afc022 => named 22
  | .afc023 => named 23
  | .afc024 => named 24
  | .afc025 => named 25
  | .afc026 => named 26
  | .afc027 => named 27
  | .afc028 => named 28
  | .afc029 => named 29
  | .afc030 => named 30
  | .afc031 => named 31
  | .afc032 => named 32
  | .afc033 => named 33
  | .afc129 => named 129
  | .afc130 => named 130
  | .afc131 => named 131

/-- Well-formed terms where every code of the two ranges is named: what the opcode table alone gives (R281), and the default
instance (R205). -/
def Instr.wellFormed (i : Instr) : Bool := i.wellFormedIn inAppRange

end Sys2Proof
end

