-- ==== Sys2Proof/Decode.lean ====
section
/-! DEFINITION. The bit-field extractor and the byte assemblies (30_encoding.md R96 to R99), the code rows of the
opcode table as data, the decoder (total, rejecting by name), the encoder, and the host's view of a bare word of the
table. -/

namespace Sys2Proof

/-! ## Field extraction and byte assembly -/

/-- EXTRACT(b, mask, shift) = (b & mask) >> shift (R96), `w` being the number of set bits of the mask. -/
def extract (w : Nat) (b mask : Byte) (shift : Nat) : BitVec w :=
  ((b &&& mask) >>> shift).setWidth w

/-- A named mask and shift pair of R97; the width of the field is the number of set bits of the mask. -/
structure Field (w : Nat) where
  mask : Byte
  shift : Nat

/-- The field's value in a byte (R96). -/
def Field.get {w : Nat} (f : Field w) (b : Byte) : BitVec w := extract w b f.mask f.shift

/-- The field's value put back at its place in a byte (the recombination of R101). -/
def Field.put {w : Nat} (f : Field w) (v : BitVec w) : Byte := v.setWidth 8 <<< f.shift

/-- DL_DIR_MASK, DL_DIR_SHIFT (R97). -/
def dlDirField : Field 1 := ⟨0x80, 7⟩
/-- DL_PRM_MASK, DL_PRM_SHIFT (R97). -/
def dlPrmField : Field 1 := ⟨0x40, 6⟩
/-- DL_FCB_MASK, DL_FCB_SHIFT (R97). -/
def dlFcbField : Field 1 := ⟨0x20, 5⟩
/-- DL_FCV_MASK, DL_FCV_SHIFT (R97). -/
def dlFcvField : Field 1 := ⟨0x10, 4⟩
/-- DL_FC_MASK, DL_FC_SHIFT (R97). -/
def dlFcField : Field 4 := ⟨0x0f, 0⟩
/-- TR_FIN_MASK, TR_FIN_SHIFT (R97). -/
def trFinField : Field 1 := ⟨0x80, 7⟩
/-- TR_FIR_MASK, TR_FIR_SHIFT (R97). -/
def trFirField : Field 1 := ⟨0x40, 6⟩
/-- TR_SEQ_MASK, TR_SEQ_SHIFT (R97). -/
def trSeqField : Field 6 := ⟨0x3f, 0⟩
/-- AP_FIR_MASK, AP_FIR_SHIFT (R97): FIR is bit 7 here and bit 6 in the transport byte (10_state.md R23). -/
def apFirField : Field 1 := ⟨0x80, 7⟩
/-- AP_FIN_MASK, AP_FIN_SHIFT (R97). -/
def apFinField : Field 1 := ⟨0x40, 6⟩
/-- AP_CON_MASK, AP_CON_SHIFT (R97). -/
def apConField : Field 1 := ⟨0x20, 5⟩
/-- AP_UNS_MASK, AP_UNS_SHIFT (R97). -/
def apUnsField : Field 1 := ⟨0x10, 4⟩
/-- AP_SEQ_MASK, AP_SEQ_SHIFT (R97). -/
def apSeqField : Field 4 := ⟨0x0f, 0⟩

/-- LE16(lo, hi): the byte at the lower offset is the low half (R98). -/
def le16 (lo hi : Byte) : Half := lo.setWidth 16 ||| hi.setWidth 16 <<< 8

/-- BE16(first, second), used for the start marker only (R99). -/
def be16 (first second : Byte) : Half := first.setWidth 16 <<< 8 ||| second.setWidth 16

/-- START_MARKER, read big-endian (00_scope.md R7, 20_memory.md R62). -/
def startMarker : Half := 0x0564

/-- The link control byte of five field values (R91, R101). -/
def linkCtrlByte (dir prm fcb fcv : Bit) (fc : BitVec 4) : Byte :=
  dlDirField.put dir ||| dlPrmField.put prm ||| dlFcbField.put fcb ||| dlFcvField.put fcv ||| dlFcField.put fc

/-- The transport byte of three field values (R92, R101). -/
def transportByte (fin fir : Bit) (seq : BitVec 6) : Byte :=
  trFinField.put fin ||| trFirField.put fir ||| trSeqField.put seq

/-- The application control byte of five field values (R93, R101). -/
def appCtrlByte (fir fin con uns : Bit) (seq : BitVec 4) : Byte :=
  apFirField.put fir ||| apFinField.put fin ||| apConField.put con ||| apUnsField.put uns ||| apSeqField.put seq

/-! ## The code rows of the opcode table -/

/-- A code row of spec/opcode_table.json: a byte matches when `byte & mask = pattern` (44_code_tables.md R281), and
`make` reads the row's operand bits out of it. -/
structure CodeRow where
  mask : Byte
  pattern : Byte
  make : Byte → Instr

/-- The row's selection test (R281). -/
def CodeRow.hits (r : CodeRow) (b : Byte) : Bool := b &&& r.mask == r.pattern

/-- The operand bits of a link code row: DIR, FCB and FCV of the control byte (R208). -/
def withLinkBits (row : Bit → Bit → Bit → Instr) (c : Byte) : Instr :=
  row (dlDirField.get c) (dlFcbField.get c) (dlFcvField.get c)

/-- The 16 rows selected with PRM = 1 (R105 a, R210 to R225). -/
def primaryRows : List CodeRow := [
  ⟨0x4f, 0x40, withLinkBits .lpf00⟩,
  ⟨0x4f, 0x41, withLinkBits .lpf01⟩,
  ⟨0x4f, 0x42, withLinkBits .lpf02⟩,
  ⟨0x4f, 0x43, withLinkBits .lpf03⟩,
  ⟨0x4f, 0x44, withLinkBits .lpf04⟩,
  ⟨0x4f, 0x45, withLinkBits .lpf05⟩,
  ⟨0x4f, 0x46, withLinkBits .lpf06⟩,
  ⟨0x4f, 0x47, withLinkBits .lpf07⟩,
  ⟨0x4f, 0x48, withLinkBits .lpf08⟩,
  ⟨0x4f, 0x49, withLinkBits .lpf09⟩,
  ⟨0x4f, 0x4a, withLinkBits .lpf10⟩,
  ⟨0x4f, 0x4b, withLinkBits .lpf11⟩,
  ⟨0x4f, 0x4c, withLinkBits .lpf12⟩,
  ⟨0x4f, 0x4d, withLinkBits .lpf13⟩,
  ⟨0x4f, 0x4e, withLinkBits .lpf14⟩,
  ⟨0x4f, 0x4f, withLinkBits .lpf15⟩]

/-- The 16 rows selected with PRM = 0 (R105 b, R226 to R241). -/
def secondaryRows : List CodeRow := [
  ⟨0x4f, 0x00, withLinkBits .lsf00⟩,
  ⟨0x4f, 0x01, withLinkBits .lsf01⟩,
  ⟨0x4f, 0x02, withLinkBits .lsf02⟩,
  ⟨0x4f, 0x03, withLinkBits .lsf03⟩,
  ⟨0x4f, 0x04, withLinkBits .lsf04⟩,
  ⟨0x4f, 0x05, withLinkBits .lsf05⟩,
  ⟨0x4f, 0x06, withLinkBits .lsf06⟩,
  ⟨0x4f, 0x07, withLinkBits .lsf07⟩,
  ⟨0x4f, 0x08, withLinkBits .lsf08⟩,
  ⟨0x4f, 0x09, withLinkBits .lsf09⟩,
  ⟨0x4f, 0x0a, withLinkBits .lsf10⟩,
  ⟨0x4f, 0x0b, withLinkBits .lsf11⟩,
  ⟨0x4f, 0x0c, withLinkBits .lsf12⟩,
  ⟨0x4f, 0x0d, withLinkBits .lsf13⟩,
  ⟨0x4f, 0x0e, withLinkBits .lsf14⟩,
  ⟨0x4f, 0x0f, withLinkBits .lsf15⟩]

/-- The 32 rows a link control byte is matched against. -/
def linkRows : List CodeRow := primaryRows ++ secondaryRows

/-- The 34 rows of the request range 0 to 33 (R105 c, R242 to R275). -/
def requestRows : List CodeRow := [
  ⟨0xff, 0x00, fun _ => .afc000⟩,
  ⟨0xff, 0x01, fun _ => .afc001⟩,
  ⟨0xff, 0x02, fun _ => .afc002⟩,
  ⟨0xff, 0x03, fun _ => .afc003⟩,
  ⟨0xff, 0x04, fun _ => .afc004⟩,
  ⟨0xff, 0x05, fun _ => .afc005⟩,
  ⟨0xff, 0x06, fun _ => .afc006⟩,
  ⟨0xff, 0x07, fun _ => .afc007⟩,
  ⟨0xff, 0x08, fun _ => .afc008⟩,
  ⟨0xff, 0x09, fun _ => .afc009⟩,
  ⟨0xff, 0x0a, fun _ => .afc010⟩,
  ⟨0xff, 0x0b, fun _ => .afc011⟩,
  ⟨0xff, 0x0c, fun _ => .afc012⟩,
  ⟨0xff, 0x0d, fun _ => .afc013⟩,
  ⟨0xff, 0x0e, fun _ => .afc014⟩,
  ⟨0xff, 0x0f, fun _ => .afc015⟩,
  ⟨0xff, 0x10, fun _ => .afc016⟩,
  ⟨0xff, 0x11, fun _ => .afc017⟩,
  ⟨0xff, 0x12, fun _ => .afc018⟩,
  ⟨0xff, 0x13, fun _ => .afc019⟩,
  ⟨0xff, 0x14, fun _ => .afc020⟩,
  ⟨0xff, 0x15, fun _ => .afc021⟩,
  ⟨0xff, 0x16, fun _ => .afc022⟩,
  ⟨0xff, 0x17, fun _ => .afc023⟩,
  ⟨0xff, 0x18, fun _ => .afc024⟩,
  ⟨0xff, 0x19, fun _ => .afc025⟩,
  ⟨0xff, 0x1a, fun _ => .afc026⟩,
  ⟨0xff, 0x1b, fun _ => .afc027⟩,
  ⟨0xff, 0x1c, fun _ => .afc028⟩,
  ⟨0xff, 0x1d, fun _ => .afc029⟩,
  ⟨0xff, 0x1e, fun _ => .afc030⟩,
  ⟨0xff, 0x1f, fun _ => .afc031⟩,
  ⟨0xff, 0x20, fun _ => .afc032⟩,
  ⟨0xff, 0x21, fun _ => .afc033⟩]

/-- The 3 rows of the response range 129 to 131 (R105 c, R276 to R278). -/
def responseRows : List CodeRow := [
  ⟨0xff, 0x81, fun _ => .afc129⟩,
  ⟨0xff, 0x82, fun _ => .afc130⟩,
  ⟨0xff, 0x83, fun _ => .afc131⟩]

/-- The 37 named rows an application function byte is matched against. -/
def appRows : List CodeRow := requestRows ++ responseRows

/-- The instruction of the first row that matches. -/
def findRow (rows : List CodeRow) (b : Byte) : Option Instr :=
  (rows.find? fun r => r.hits b).map fun r => r.make b

/-! ## The decoder -/

/-- Why bytes are no instruction of a space. -/
inductive Reject where
  /-- More or fewer bytes than the space's words have. -/
  | wrongLength
  /-- A write to CMD with bit 0 clear: it does nothing (10_state.md R33). -/
  | noCommand
  /-- Two bytes other than 0x05 0x64 (R130). -/
  | notMarker
  /-- STAGE = IDLE names no operation (R302). -/
  | idleStage
  /-- A STAGE code of 5 to 255: R30's 3-bit register holds 0 to 4 only. -/
  | reservedStage
  /-- No link row matches; R106 says that this cannot happen. -/
  | noLinkRow
  deriving DecidableEq, Repr

/-- What the decoder answers. -/
inductive Decoded where
  | ok (i : Instr)
  | rejected (r : Reject)
  deriving DecidableEq, Repr

/-- CMD: bit 0 is START, bits 7 to 1 are ignored (R33, R301). -/
def decodeCmd (w : Byte) : Decoded :=
  if w &&& 0x01 = 0x01 then .ok .start else .rejected .noCommand

/-- The start marker, which VALIDATE's row is matched by (R107). -/
def decodeMarker (b0 b1 : Byte) : Decoded :=
  if be16 b0 b1 = startMarker then .ok .validate else .rejected .notMarker

/-- The operation a STAGE code names (10_state.md R30). -/
def decodeStage (code : Byte) : Decoded :=
  match code.toNat with
  | 0 => .rejected .idleStage
  | 1 => .ok .validate
  | 2 => .ok .link
  | 3 => .ok .transport
  | 4 => .ok .app
  | _ => .rejected .reservedStage

/-- The row a link control byte selects (R106). -/
def decodeLinkCtrl (c : Byte) : Decoded :=
  match findRow linkRows c with
  | some i => .ok i
  | none => .rejected .noLinkRow

/-- The row an application function byte selects where the table names the codes `named`: the named row, and for every
other code AFC_UNASSIGNED, codes of the two ranges that are not named included (R105 c, R106, R279). -/
def decodeAppFc (named : Byte → Bool) (f : Byte) : Decoded :=
  .ok (if named f then (findRow appRows f).getD (.afcUnassigned f) else .afcUnassigned f)

/-- The decoder of a build whose table names the codes `named`: total on any bytes in any space. -/
def decodeIn (named : Byte → Bool) : Space → List Byte → Decoded
  | .hostCmd, [w] => decodeCmd w
  | .marker, [b0, b1] => decodeMarker b0 b1
  | .stage, [n] => decodeStage n
  | .linkCtrl, [c] => decodeLinkCtrl c
  | .appFc, [f] => decodeAppFc named f
  | _, _ => .rejected .wrongLength

/-- The decoder built from the opcode table alone, which takes AFC_UNASSIGNED when no AFC_nnn row matches (R281). -/
def decode (space : Space) (bytes : List Byte) : Decoded := decodeIn inAppRange space bytes

/-! ## The encoder -/

/-- The space an instruction's words belong to. VALIDATE has the bit pattern of its row; LINK, TRANSPORT and APP "have
no selecting bit pattern" (R107) and are named by their STAGE code. -/
def Instr.space : Instr → Space
  | .start => .hostCmd
  | .validate => .marker
  | .link | .transport | .app => .stage
  | .lpf00 _ _ _ | .lpf01 _ _ _ | .lpf02 _ _ _ | .lpf03 _ _ _ | .lpf04 _ _ _ | .lpf05 _ _ _ | .lpf06 _ _ _ | .lpf07 _ _ _ => .linkCtrl
  | .lpf08 _ _ _ | .lpf09 _ _ _ | .lpf10 _ _ _ | .lpf11 _ _ _ | .lpf12 _ _ _ | .lpf13 _ _ _ | .lpf14 _ _ _ | .lpf15 _ _ _ => .linkCtrl
  | .lsf00 _ _ _ | .lsf01 _ _ _ | .lsf02 _ _ _ | .lsf03 _ _ _ | .lsf04 _ _ _ | .lsf05 _ _ _ | .lsf06 _ _ _ | .lsf07 _ _ _ => .linkCtrl
  | .lsf08 _ _ _ | .lsf09 _ _ _ | .lsf10 _ _ _ | .lsf11 _ _ _ | .lsf12 _ _ _ | .lsf13 _ _ _ | .lsf14 _ _ _ | .lsf15 _ _ _ => .linkCtrl
  | .afc000 | .afc001 | .afc002 | .afc003 | .afc004 | .afc005 | .afc006 | .afc007 | .afc008 | .afc009 => .appFc
  | .afc010 | .afc011 | .afc012 | .afc013 | .afc014 | .afc015 | .afc016 | .afc017 | .afc018 | .afc019 => .appFc
  | .afc020 | .afc021 | .afc022 | .afc023 | .afc024 | .afc025 | .afc026 | .afc027 | .afc028 | .afc029 => .appFc
  | .afc030 | .afc031 | .afc032 | .afc033 | .afc129 | .afc130 | .afc131 => .appFc
  | .afcUnassigned _ => .appFc

/-- The words of an instruction in its space, from the spec's encodings (R33, R62, R30, R91, R94). -/
def encode : Instr → List Byte
  | .start => [0x01]
  | .validate => [0x05, 0x64]
  | .link => [2]
  | .transport => [3]
  | .app => [4]
  | .lpf00 d b v => [linkCtrlByte d 1 b v 0]
  | .lpf01 d b v => [linkCtrlByte d 1 b v 1]
  | .lpf02 d b v => [linkCtrlByte d 1 b v 2]
  | .lpf03 d b v => [linkCtrlByte d 1 b v 3]
  | .lpf04 d b v => [linkCtrlByte d 1 b v 4]
  | .lpf05 d b v => [linkCtrlByte d 1 b v 5]
  | .lpf06 d b v => [linkCtrlByte d 1 b v 6]
  | .lpf07 d b v => [linkCtrlByte d 1 b v 7]
  | .lpf08 d b v => [linkCtrlByte d 1 b v 8]
  | .lpf09 d b v => [linkCtrlByte d 1 b v 9]
  | .lpf10 d b v => [linkCtrlByte d 1 b v 10]
  | .lpf11 d b v => [linkCtrlByte d 1 b v 11]
  | .lpf12 d b v => [linkCtrlByte d 1 b v 12]
  | .lpf13 d b v => [linkCtrlByte d 1 b v 13]
  | .lpf14 d b v => [linkCtrlByte d 1 b v 14]
  | .lpf15 d b v => [linkCtrlByte d 1 b v 15]
  | .lsf00 d b v => [linkCtrlByte d 0 b v 0]
  | .lsf01 d b v => [linkCtrlByte d 0 b v 1]
  | .lsf02 d b v => [linkCtrlByte d 0 b v 2]
  | .lsf03 d b v => [linkCtrlByte d 0 b v 3]
  | .lsf04 d b v => [linkCtrlByte d 0 b v 4]
  | .lsf05 d b v => [linkCtrlByte d 0 b v 5]
  | .lsf06 d b v => [linkCtrlByte d 0 b v 6]
  | .lsf07 d b v => [linkCtrlByte d 0 b v 7]
  | .lsf08 d b v => [linkCtrlByte d 0 b v 8]
  | .lsf09 d b v => [linkCtrlByte d 0 b v 9]
  | .lsf10 d b v => [linkCtrlByte d 0 b v 10]
  | .lsf11 d b v => [linkCtrlByte d 0 b v 11]
  | .lsf12 d b v => [linkCtrlByte d 0 b v 12]
  | .lsf13 d b v => [linkCtrlByte d 0 b v 13]
  | .lsf14 d b v => [linkCtrlByte d 0 b v 14]
  | .lsf15 d b v => [linkCtrlByte d 0 b v 15]
  | .afc000 => [0]
  | .afc001 => [1]
  | .afc002 => [2]
  | .afc003 => [3]
  | .afc004 => [4]
  | .afc005 => [5]
  | .afc006 => [6]
  | .afc007 => [7]
  | .afc008 => [8]
  | .afc009 => [9]
  | .afc010 => [10]
  | .afc011 => [11]
  | .afc012 => [12]
  | .afc013 => [13]
  | .afc014 => [14]
  | .afc015 => [15]
  | .afc016 => [16]
  | .afc017 => [17]
  | .afc018 => [18]
  | .afc019 => [19]
  | .afc020 => [20]
  | .afc021 => [21]
  | .afc022 => [22]
  | .afc023 => [23]
  | .afc024 => [24]
  | .afc025 => [25]
  | .afc026 => [26]
  | .afc027 => [27]
  | .afc028 => [28]
  | .afc029 => [29]
  | .afc030 => [30]
  | .afc031 => [31]
  | .afc032 => [32]
  | .afc033 => [33]
  | .afc129 => [129]
  | .afc130 => [130]
  | .afc131 => [131]
  | .afcUnassigned code => [code]

/-! ## A bare word of the opcode table -/

/-- The bytes of a word of the table: bit 0 is the least significant bit of the first byte. -/
def bytesOfWord (w : Nat) : Nat → List Byte
  | 0 => []
  | n + 1 => BitVec.ofNat 8 w :: bytesOfWord (w / 256) n

/-- The instruction of a decoder's answer. -/
def Decoded.instr? : Decoded → Option Instr
  | .ok i => some i
  | .rejected _ => none

/-- A one-byte word with no space named: the row with the most fixed bits wins (log 1). A named application row fixes 8
bits, a link row 5, START 1, TRANSPORT and AFC_UNASSIGNED none. -/
def decodeBareByte (b : Byte) : Option Instr :=
  match findRow appRows b with
  | some i => some i
  | none => (decode .linkCtrl [b]).instr?

/-- A two-byte word with no space named: VALIDATE's row fixes 16 bits and its word is stored big-endian; APP's row fixes
none (log 1). -/
def decodeBareHalf (w : Half) : Option Instr :=
  match decode .marker [(w >>> 8).setWidth 8, w.setWidth 8] with
  | .ok i => some i
  | .rejected _ => some .app

/-- The instruction read from a bare word of spec/opcode_table.json (log 1). -/
def decodeTableWord (nbits w : Nat) : Option Instr :=
  match nbits with
  | 8 => decodeBareByte (BitVec.ofNat 8 w)
  | 16 => decodeBareHalf (BitVec.ofNat 16 w)
  | 80 => some .link
  | _ => none

end Sys2Proof
end

