-- ==== Sys2Proof/Config.lean ====
section
/-! DEFINITION. What an implementation fixes and the spec leaves open: the OPEN parameters of 00_scope.md R7 and the
free values. Each is an uninterpreted constant, so a theorem holds for every value of it. -/

namespace Sys2Proof

/-- A ROM entry or label register (10_state.md R27): `assigned` is 1 bit, `name` is a Text. -/
structure LabelEntry where
  assigned : Bit
  name : String
  deriving DecidableEq, Repr, Inhabited

/-- LBL_NULL, the cleared label; never the result of a lookup (R27). -/
def LabelEntry.null : LabelEntry := ⟨0, ""⟩

/-- PLACEHOLDER_TEXT (00_scope.md R7, 44_code_tables.md R202; log 17). -/
def placeholderText : String := "Unassigned"

/-- The placeholder entry of an unused index or a table miss (R202). -/
def LabelEntry.placeholder : LabelEntry := ⟨0, placeholderText⟩

/-- The parameters the ROM contents are made of (R203 to R205, R207). The constraints on them (a name is non-empty and
not PLACEHOLDER_TEXT, APP_NAMED lies in the two ranges, primary index 4 and the unused primary indices are fixed) are
imposed where the ROMs read them, in Machine/Resolver.lean, so any value here is an instance (log 13, 14, 15). -/
structure Roms where
  /-- NAME_PRI_n. -/
  namePri : BitVec 4 → String
  /-- SEC_USED (log 14). -/
  secUsed : BitVec 4 → Bool
  /-- NAME_SEC_n. -/
  nameSec : BitVec 4 → String
  /-- APP_NAMED (log 15). -/
  appNamed : Byte → Bool
  /-- NAME_APP_c. -/
  nameApp : Byte → String
  /-- ROM_IIN, read by no operation (R207, log 16). -/
  iin : BitVec 4 → String
  /-- ROM_PFX, read by no operation (R207, log 16). -/
  pfx : BitVec 3 → String
  /-- ROM_RNG, read by no operation (R207, log 16). -/
  rng : BitVec 4 → String
  deriving Inhabited

/-- The build's ROM parameters (R201: constants of the build). -/
opaque Config.roms : Roms

/-- How far FB_MAX exceeds 20. -/
opaque Config.fbMaxOver20 : Nat

/-- FB_MAX, the greatest buffer length the build accepts, at least the 20 that the vectors of 95_test_vectors.md need
(R7, R34; log 9). -/
def Config.fbMax : Nat := Config.fbMaxOver20 + 20

/-- W_LEN, the width of the FLEN input: ceil(log2(FB_MAX + 1)) (R7). -/
def Config.wLen : Nat := Nat.clog 2 (Config.fbMax + 1)

/-- One less than N_INST, which is a natural >= 1 (R7). -/
opaque Config.nInstLessOne : Nat

/-- N_INST, the number of independent parser instances (R7, 60_exceptions.md R341; log 20). -/
def Config.nInst : Nat := Config.nInstLessOne + 1

/-- Free value: what a buffer byte that HOST has not written holds (70_reset_and_hazards.md R371, U2; log 7). DESIGN CHOICE:
the key is the offset alone, so all instances hold the same unwritten byte at an offset, which the spec leaves open: it
gives each instance its own buffer with unspecified contents (R41, R73, R341; log 7). -/
opaque Config.unwrittenByte : Nat → Byte

/-- Free value: the number the `k`-th read of numeric record register `n` gives while a transaction runs (R372, U3;
log 18). -/
opaque Config.busyNumber : Nat → Nat → Half

/-- Free value: the label the `k`-th read of label register `n` gives while a transaction runs (R372, U3; log 18). -/
opaque Config.busyLabel : Nat → Nat → LabelEntry

end Sys2Proof
end

