-- ==== Sys2Proof/Machine/State.lean ====
section
/-! DEFINITION. The state of one instance (10_state.md R21), the two failure kinds, the reasons a step can stop, and
the state after reset (R41). -/

namespace Sys2Proof.Machine

/-- STAGE, the program counter of this hardware (R30). Its codes 5 to 7 are unreachable, so the type has the five
values (93_implementation_defined.md U4). -/
inductive Stage where
  | idle
  | validate
  | link
  | transport
  | app
  deriving DecidableEq, Repr

/-- RESULT (R36). -/
inductive Result where
  /-- No transaction has finished since reset or since the last accepted START. -/
  | none
  /-- The record is a decoded frame. -/
  | ok
  /-- FrameTooShort. -/
  | frameTooShort
  /-- NotDNP3. -/
  | notDnp3
  deriving DecidableEq, Repr

/-- The two failure kinds a stage operation can raise (60_exceptions.md R320). -/
inductive Failure where
  | frameTooShort
  | notDnp3
  deriving DecidableEq, Repr

/-- REC, the 24 record registers of R22 in their order (REC 0 is `dlStart`, REC 23 is `apLbl`). -/
structure Record where
  dlStart : Half
  dlLen : Byte
  dlCtrl : Byte
  dlDir : Bit
  dlPrm : Bit
  dlFcb : Bit
  dlFcv : Bit
  dlFc : BitVec 4
  dlLbl : LabelEntry
  dlDst : Half
  dlSrc : Half
  dlCrc : Half
  trByte : Byte
  trFin : Bit
  trFir : Bit
  trSeq : BitVec 6
  apCtrl : Byte
  apFir : Bit
  apFin : Bit
  apCon : Bit
  apUns : Bit
  apSeq : BitVec 4
  apFc : Byte
  apLbl : LabelEntry
  deriving DecidableEq, Repr

/-- The record after `clear REC`: every numeric register 0, both labels LBL_NULL (R41). -/
def Record.cleared : Record where
  dlStart := 0
  dlLen := 0
  dlCtrl := 0
  dlDir := 0
  dlPrm := 0
  dlFcb := 0
  dlFcv := 0
  dlFc := 0
  dlLbl := LabelEntry.null
  dlDst := 0
  dlSrc := 0
  dlCrc := 0
  trByte := 0
  trFin := 0
  trFir := 0
  trSeq := 0
  apCtrl := 0
  apFir := 0
  apFin := 0
  apCon := 0
  apUns := 0
  apSeq := 0
  apFc := 0
  apLbl := LabelEntry.null

/-- The bytes HOST has written to the frame buffer: (offset, byte) pairs, offsets strictly rising. An offset that is
not listed has never been written (log 7). -/
abbrev Memory := List Host.Cell

/-- One move of HOST (10_state.md R20). The model's own vocabulary for what the spec lets HOST do (log 3). -/
inductive HostMove where
  /-- HOST does nothing and PARSER takes its step. -/
  | quiet
  /-- HOST writes one byte of the frame buffer (R38, 70_reset_and_hazards.md R364). -/
  | writeByte (offset : Nat) (value : Byte)
  /-- HOST writes FLEN (R34). -/
  | writeLen (length : Nat)
  /-- HOST writes CMD (R33). -/
  | writeCmd (value : Byte)
  /-- HOST or the platform applies reset (R360). -/
  | reset
  deriving DecidableEq, Repr

/-- The state of one instance (R21), and `host`, the model's own field: the moves HOST is about to make, oldest first
(log 3). -/
structure State where
  record : Record
  stage : Stage
  result : Result
  flen : Nat
  fb : Memory
  host : List HostMove
  deriving DecidableEq, Repr

/-- Why a step stops the machine. -/
inductive Fault where
  /-- Raised by the buffer reads of Ops.lean at an offset at or beyond FLEN, which 20_memory.md R66 leaves undefined.
  Safe: R66 says no run performs one, so it stops only states that no run reaches (log 11). -/
  | readOutsideBuffer (offset : Nat)
  deriving DecidableEq, Repr

/-- Why a step has no meaning in the model. -/
inductive Refusal where
  /-- Raised by exec's arm of an instruction without a meaning (no arm of this model). Safe. -/
  | notModelled (mnemonic : String)
  /-- Raised when HOST changes FLEN or a byte at offsets 0 to 12 while a transaction runs: R370 and U1 tell a model to
  refuse. Safe (log 10). -/
  | bufferChangedDuringTransaction
  /-- Raised when HOST sets FLEN beyond FB_MAX: R371 and U2 tell a model to refuse. Safe (log 9). -/
  | lengthBeyondMax
  deriving DecidableEq, Repr

/-- The machine right after reset (R41). FLEN and FB are unspecified there: FLEN is 0 (log 6), FB lists no byte
(log 7), and HOST has no move listed (log 8). -/
def State.reset : State where
  record := Record.cleared
  stage := .idle
  result := .none
  flen := 0
  fb := []
  host := []

end Sys2Proof.Machine
end

