-- ==== Sys2Proof/Machine/Ops.lean ====
section
/-! DEFINITION. The named operations over memory and registers, and the entry of a failure. -/

namespace Sys2Proof.Machine

/-! ## The frame buffer -/

/-- The byte HOST wrote at an offset, if it wrote one. -/
def Memory.read? : Memory → Nat → Option Byte
  | [], _ => none
  | (x, v) :: m, a => if x = a then some v else Memory.read? m a

/-- HOST's write of one byte. It keeps the offsets strictly rising. -/
def Memory.write : Memory → Nat → Byte → Memory
  | [], a, b => [(a, b)]
  | (x, v) :: m, a, b =>
    if a < x then (a, b) :: (x, v) :: m
    else if a = x then (a, b) :: m
    else (x, v) :: Memory.write m a b

/-- The canonical form: offsets strictly rising. No entry can equal what an unlisted offset holds, since that is
"nothing written" (log 7). -/
def Memory.wf : Memory → Bool
  | [] => true
  | (x, _) :: m => m.all (fun c => x < c.1) && Memory.wf m

/-- What the buffer memory holds at an offset: the byte HOST wrote, else a free value
(70_reset_and_hazards.md R371), the same in every instance (DESIGN CHOICE, log 7). -/
def byteAt (s : State) (a : Nat) : Byte :=
  (s.fb.read? a).getD (Config.unwrittenByte a)

/-- MemRead(a, 1), handed to the rest of the operation; defined only for a < FLEN (20_memory.md R66). -/
def withByte (s : State) (a : Nat) (k : Byte → Host.Outcome State Fault Refusal) : Host.Outcome State Fault Refusal :=
  if a < s.flen then k (byteAt s a) else .fault (.readOutsideBuffer a)

/-- MemRead(a, 2), little-endian (00_scope.md R11, R61). -/
def withHalfLE (s : State) (a : Nat) (k : Half → Host.Outcome State Fault Refusal) : Host.Outcome State Fault Refusal :=
  withByte s a fun lo => withByte s (a + 1) fun hi => k (le16 lo hi)

/-- MemReadBE(a, 2), big-endian (R11, R62). -/
def withHalfBE (s : State) (a : Nat) (k : Half → Host.Outcome State Fault Refusal) : Host.Outcome State Fault Refusal :=
  withByte s a fun first => withByte s (a + 1) fun second => k (be16 first second)

/-! ## The registers -/

/-- x[STAGE] <- v. -/
def State.setStage (s : State) (v : Stage) : State := { s with stage := v }

/-- x[RESULT] <- v. -/
def State.setResult (s : State) (v : Result) : State := { s with result := v }

/-- Record registers written together. -/
def State.setRecord (s : State) (r : Record) : State := { s with record := r }

/-- clear REC (10_state.md R41). -/
def State.clearRecord (s : State) : State := s.setRecord Record.cleared

/-- x[DL_LBL] <- e. -/
def State.setDlLbl (s : State) (e : LabelEntry) : State := s.setRecord { s.record with dlLbl := e }

/-- x[AP_LBL] <- e. -/
def State.setApLbl (s : State) (e : LabelEntry) : State := s.setRecord { s.record with apLbl := e }

/-- The code of a STAGE value (R30). -/
def Stage.code : Stage → BitVec 3
  | .idle => 0
  | .validate => 1
  | .link => 2
  | .transport => 3
  | .app => 4

/-- The code of a RESULT value (R36). -/
def Result.code : Result → BitVec 2
  | .none => 0
  | .ok => 1
  | .frameTooShort => 2
  | .notDnp3 => 3

/-! ## Failure entry -/

/-- The RESULT value of a failure kind (60_exceptions.md R320). -/
def Failure.result : Failure → Result
  | .frameTooShort => .frameTooShort
  | .notDnp3 => .notDnp3

/-- `raise K` (R330): clear REC, set RESULT, rest in IDLE. Nothing is saved and no vector is fetched. There is no
return operation beside it (R332): the next START is accepted from IDLE. -/
def State.raiseFailure (s : State) (k : Failure) : State :=
  ((s.clearRecord).setResult k.result).setStage .idle

end Sys2Proof.Machine
end

