-- ==== Sys2Proof/Machine/Flags.lean ====
section
/-! DEFINITION. The one-bit fields (10_state.md R32: results, each a copy of one bit of one byte) and the views of
STATUS. -/

namespace Sys2Proof.Machine

/-- DIR of a link control byte (30_encoding.md R91). -/
def dirOf (c : Byte) : Bit := dlDirField.get c
/-- PRM of a link control byte: it selects the table (R32, R91). -/
def prmOf (c : Byte) : Bit := dlPrmField.get c
/-- FCB of a link control byte (R91). -/
def fcbOf (c : Byte) : Bit := dlFcbField.get c
/-- FCV of a link control byte (R91). -/
def fcvOf (c : Byte) : Bit := dlFcvField.get c
/-- FIN of a transport byte (R92). -/
def trFinOf (t : Byte) : Bit := trFinField.get t
/-- FIR of a transport byte (R92). -/
def trFirOf (t : Byte) : Bit := trFirField.get t
/-- FIR of an application control byte (R93). -/
def apFirOf (a : Byte) : Bit := apFirField.get a
/-- FIN of an application control byte (R93). -/
def apFinOf (a : Byte) : Bit := apFinField.get a
/-- CON of an application control byte (R93). -/
def apConOf (a : Byte) : Bit := apConField.get a
/-- UNS of an application control byte (R93). -/
def apUnsOf (a : Byte) : Bit := apUnsField.get a

/-- BUSY = (STAGE != IDLE) (R35). -/
def State.busy (s : State) : Bool := s.stage != .idle

/-- DONE = (STAGE = IDLE and RESULT != NONE) (R35). -/
def State.done (s : State) : Bool := s.stage == .idle && s.result != .none

/-- REC_VALID = (RESULT = OK) (R35). -/
def State.recValid (s : State) : Bool := s.result == .ok

/-- STATUS: bits 2 to 0 STAGE, bits 4 to 3 RESULT, bits 7 to 5 read as 0 (R35). -/
def State.status (s : State) : Byte :=
  s.result.code.setWidth 8 <<< 3 ||| s.stage.code.setWidth 8

end Sys2Proof.Machine
end

