-- ==== Sys2Proof/Machine/Resolver.lean ====
section
/-! DEFINITION. The code-table ROMs and the control-code resolver (44_code_tables.md R200 to R207), made of the ROM
parameters under the constraints the spec puts on them. -/

namespace Sys2Proof.Machine

/-- A table name is a non-empty Text different from PLACEHOLDER_TEXT (R203 to R205). A parameter that is no such text
stands for one fixed name that is, so that every value of the parameter is an instance (log 13). -/
def legalName (raw : String) : String :=
  if raw = "" ∨ raw = placeholderText then "Named" else raw

/-- The entry of a used index. -/
def namedEntry (raw : String) : LabelEntry := ⟨1, legalName raw⟩

/-- The primary indices in use: all but 5 to 8 and 10 to 13 (R203). -/
def primaryUsed (i : BitVec 4) : Bool :=
  let n := i.toNat
  !((5 ≤ n && n ≤ 8) || (10 ≤ n && n ≤ 13))

/-- ROM_PRI[i] (R203, R210 to R225): index 4 has the source's name, the unused indices the placeholder. -/
def Roms.pri (r : Roms) (i : BitVec 4) : LabelEntry :=
  if i = 4 then ⟨1, "Unconfirmed User Data"⟩
  else if primaryUsed i then namedEntry (r.namePri i)
  else LabelEntry.placeholder

/-- ROM_SEC[i] (R204, R226 to R241). -/
def Roms.sec (r : Roms) (i : BitVec 4) : LabelEntry :=
  if r.secUsed i then namedEntry (r.nameSec i) else LabelEntry.placeholder

/-- The table names code c: c is in APP_NAMED, which lies in the two ranges (R205; log 15). -/
def Roms.named (r : Roms) (c : Byte) : Bool := inAppRange c && r.appNamed c

/-- ROM_APP[c] (R205, R242 to R279): total on 0 to 255; a code outside the two ranges is a miss in every instance. -/
def Roms.app (r : Roms) (c : Byte) : LabelEntry :=
  if Roms.named r c then namedEntry (r.nameApp c) else LabelEntry.placeholder

/-- ROM_PRI of the build. -/
def romPri (i : BitVec 4) : LabelEntry := Roms.pri Config.roms i

/-- ROM_SEC of the build. -/
def romSec (i : BitVec 4) : LabelEntry := Roms.sec Config.roms i

/-- ROM_APP of the build. -/
def romApp (c : Byte) : LabelEntry := Roms.app Config.roms c

/-- The codes the build's table names. -/
def romNamed (c : Byte) : Bool := Roms.named Config.roms c

/-- LRESOLVE(prm, fc), the resolver's link port (41_link.md R143, R200): exactly one of the two tables is read. -/
def lresolve (prm : Bit) (fc : BitVec 4) : LabelEntry :=
  if prm = 1 then romPri fc else romSec fc

/-- ARESOLVE(f), the resolver's application port (43_application.md R172, R200). -/
def aresolve (f : Byte) : LabelEntry := romApp f

end Sys2Proof.Machine
end

