-- ==== Sys2Proof/Machine/Operands.lean ====
section
/-! DEFINITION. The code fields and sequence fields of the three header bytes, and the record registers each stage
operation writes, as functions of the bytes it read. -/

namespace Sys2Proof.Machine

/-- FC of a link control byte, 0 to 15 (30_encoding.md R91, R103). -/
def fcOf (c : Byte) : BitVec 4 := dlFcField.get c

/-- SEQ of a transport byte, copied, never incremented (R92, R102). -/
def trSeqOf (t : Byte) : BitVec 6 := trSeqField.get t

/-- SEQ of an application control byte (R93, R102). -/
def apSeqOf (a : Byte) : BitVec 4 := apSeqField.get a

/-- MIN_LINK (00_scope.md R7). -/
def minLink : Nat := 10

/-- MIN_TRANSPORT (R7). -/
def minTransport : Nat := 11

/-- MIN_APP (R7). -/
def minApp : Nat := 13

/-- The twelve link registers written from the link header's fields (41_link.md R140); the others keep their values. -/
def Record.withLink (r : Record) (start : Half) (len ctrl : Byte) (dst src crc : Half) : Record :=
  { r with
    dlStart := start
    dlLen := len
    dlCtrl := ctrl
    dlDir := dirOf ctrl
    dlPrm := prmOf ctrl
    dlFcb := fcbOf ctrl
    dlFcv := fcvOf ctrl
    dlFc := fcOf ctrl
    dlLbl := lresolve (prmOf ctrl) (fcOf ctrl)
    dlDst := dst
    dlSrc := src
    dlCrc := crc }

/-- The four transport registers written from the transport byte (42_transport.md R160). -/
def Record.withTransport (r : Record) (t : Byte) : Record :=
  { r with
    trByte := t
    trFin := trFinOf t
    trFir := trFirOf t
    trSeq := trSeqOf t }

/-- The eight application registers written from the application header (43_application.md R170). -/
def Record.withApp (r : Record) (a f : Byte) : Record :=
  { r with
    apCtrl := a
    apFir := apFirOf a
    apFin := apFinOf a
    apCon := apConOf a
    apUns := apUnsOf a
    apSeq := apSeqOf a
    apFc := f
    apLbl := aresolve f }

end Sys2Proof.Machine
end

