-- ==== Sys2Proof/Machine/AppCodes.lean ====
section
/-! DEFINITION. The application code rows (44_code_tables.md section 4). The only effect of a row is the ROM entry
written to AP_LBL (R208); a code that is not in APP_NAMED gives the placeholder and is no failure (R205, R279). -/

namespace Sys2Proof.Machine

/-- The shared effect of an application row: AP_LBL receives the entry ARESOLVE gives for the row's code (R172, R208). -/
def writeAppLabel (code : Byte) (s : State) : Host.Outcome State Fault Refusal :=
  .next (s.setApLbl (aresolve code))

/-- AFC_000 (R242): ROM_APP[0]. -/
def execAfc000 (s : State) : Host.Outcome State Fault Refusal := writeAppLabel 0 s

/-- AFC_001 (R243): ROM_APP[1]. -/
def execAfc001 (s : State) : Host.Outcome State Fault Refusal := writeAppLabel 1 s

/-- AFC_002 (R244): ROM_APP[2]. -/
def execAfc002 (s : State) : Host.Outcome State Fault Refusal := writeAppLabel 2 s

/-- AFC_003 (R245): ROM_APP[3]. -/
def execAfc003 (s : State) : Host.Outcome State Fault Refusal := writeAppLabel 3 s

/-- AFC_004 (R246): ROM_APP[4]. -/
def execAfc004 (s : State) : Host.Outcome State Fault Refusal := writeAppLabel 4 s

/-- AFC_005 (R247): ROM_APP[5]. -/
def execAfc005 (s : State) : Host.Outcome State Fault Refusal := writeAppLabel 5 s

/-- AFC_006 (R248): ROM_APP[6]. -/
def execAfc006 (s : State) : Host.Outcome State Fault Refusal := writeAppLabel 6 s

/-- AFC_007 (R249): ROM_APP[7]. -/
def execAfc007 (s : State) : Host.Outcome State Fault Refusal := writeAppLabel 7 s

/-- AFC_008 (R250): ROM_APP[8]. -/
def execAfc008 (s : State) : Host.Outcome State Fault Refusal := writeAppLabel 8 s

/-- AFC_009 (R251): ROM_APP[9]. -/
def execAfc009 (s : State) : Host.Outcome State Fault Refusal := writeAppLabel 9 s

/-- AFC_010 (R252): ROM_APP[10]. -/
def execAfc010 (s : State) : Host.Outcome State Fault Refusal := writeAppLabel 10 s

/-- AFC_011 (R253): ROM_APP[11]. -/
def execAfc011 (s : State) : Host.Outcome State Fault Refusal := writeAppLabel 11 s

/-- AFC_012 (R254): ROM_APP[12]. -/
def execAfc012 (s : State) : Host.Outcome State Fault Refusal := writeAppLabel 12 s

/-- AFC_013 (R255): ROM_APP[13]. -/
def execAfc013 (s : State) : Host.Outcome State Fault Refusal := writeAppLabel 13 s

/-- AFC_014 (R256): ROM_APP[14]. -/
def execAfc014 (s : State) : Host.Outcome State Fault Refusal := writeAppLabel 14 s

/-- AFC_015 (R257): ROM_APP[15]. -/
def execAfc015 (s : State) : Host.Outcome State Fault Refusal := writeAppLabel 15 s

/-- AFC_016 (R258): ROM_APP[16]. -/
def execAfc016 (s : State) : Host.Outcome State Fault Refusal := writeAppLabel 16 s

/-- AFC_017 (R259): ROM_APP[17]. -/
def execAfc017 (s : State) : Host.Outcome State Fault Refusal := writeAppLabel 17 s

/-- AFC_018 (R260): ROM_APP[18]. -/
def execAfc018 (s : State) : Host.Outcome State Fault Refusal := writeAppLabel 18 s

/-- AFC_019 (R261): ROM_APP[19]. -/
def execAfc019 (s : State) : Host.Outcome State Fault Refusal := writeAppLabel 19 s

/-- AFC_020 (R262): ROM_APP[20]. -/
def execAfc020 (s : State) : Host.Outcome State Fault Refusal := writeAppLabel 20 s

/-- AFC_021 (R263): ROM_APP[21]. -/
def execAfc021 (s : State) : Host.Outcome State Fault Refusal := writeAppLabel 21 s

/-- AFC_022 (R264): ROM_APP[22]. -/
def execAfc022 (s : State) : Host.Outcome State Fault Refusal := writeAppLabel 22 s

/-- AFC_023 (R265): ROM_APP[23]. -/
def execAfc023 (s : State) : Host.Outcome State Fault Refusal := writeAppLabel 23 s

/-- AFC_024 (R266): ROM_APP[24]. -/
def execAfc024 (s : State) : Host.Outcome State Fault Refusal := writeAppLabel 24 s

/-- AFC_025 (R267): ROM_APP[25]. -/
def execAfc025 (s : State) : Host.Outcome State Fault Refusal := writeAppLabel 25 s

/-- AFC_026 (R268): ROM_APP[26]. -/
def execAfc026 (s : State) : Host.Outcome State Fault Refusal := writeAppLabel 26 s

/-- AFC_027 (R269): ROM_APP[27]. -/
def execAfc027 (s : State) : Host.Outcome State Fault Refusal := writeAppLabel 27 s

/-- AFC_028 (R270): ROM_APP[28]. -/
def execAfc028 (s : State) : Host.Outcome State Fault Refusal := writeAppLabel 28 s

/-- AFC_029 (R271): ROM_APP[29]. -/
def execAfc029 (s : State) : Host.Outcome State Fault Refusal := writeAppLabel 29 s

/-- AFC_030 (R272): ROM_APP[30]. -/
def execAfc030 (s : State) : Host.Outcome State Fault Refusal := writeAppLabel 30 s

/-- AFC_031 (R273): ROM_APP[31]. -/
def execAfc031 (s : State) : Host.Outcome State Fault Refusal := writeAppLabel 31 s

/-- AFC_032 (R274): ROM_APP[32]. -/
def execAfc032 (s : State) : Host.Outcome State Fault Refusal := writeAppLabel 32 s

/-- AFC_033 (R275): ROM_APP[33]. -/
def execAfc033 (s : State) : Host.Outcome State Fault Refusal := writeAppLabel 33 s

/-- AFC_129 (R276): ROM_APP[129]. -/
def execAfc129 (s : State) : Host.Outcome State Fault Refusal := writeAppLabel 129 s

/-- AFC_130 (R277): ROM_APP[130]. -/
def execAfc130 (s : State) : Host.Outcome State Fault Refusal := writeAppLabel 130 s

/-- AFC_131 (R278): ROM_APP[131]. -/
def execAfc131 (s : State) : Host.Outcome State Fault Refusal := writeAppLabel 131 s

/-- AFC_UNASSIGNED (R279): the placeholder, for every byte the row is selected by; RESULT and AP_FC are not its
concern. -/
def execAfcUnassigned (_code : Byte) (s : State) : Host.Outcome State Fault Refusal :=
  .next (s.setApLbl LabelEntry.placeholder)

end Sys2Proof.Machine
end

