-- ==== Sys2Proof/Machine/Application.lean ====
section
/-! DEFINITION. APP, the application layer decoder (43_application.md). -/

namespace Sys2Proof.Machine

/-- APP (R170): one length test covers both offsets; on success it ends the transaction with RESULT = OK, whether or not
the function code is named (R172). -/
def execApp (s : State) : Host.Outcome State Fault Refusal :=
  if s.flen < minApp then .next (s.raiseFailure .frameTooShort)
  else withByte s 11 fun a => withByte s 12 fun f =>
    .next (((s.setRecord (s.record.withApp a f)).setResult .ok).setStage .idle)

end Sys2Proof.Machine
end

