-- ==== Sys2Proof/Machine/Control.lean ====
section
/-! DEFINITION. START, the host command (45_control.md). -/

namespace Sys2Proof.Machine

/-- START (R301): accepted in IDLE only. There it clears REC and RESULT and STAGE <- VALIDATE; while a transaction runs
it has no effect and is not remembered (70_reset_and_hazards.md R373). -/
def execStart (s : State) : Host.Outcome State Fault Refusal :=
  if s.stage = .idle then .next (((s.clearRecord).setResult .none).setStage .validate) else .next s

end Sys2Proof.Machine
end

