-- ==== Sys2Proof/Machine/Link.lean ====
section
/-! DEFINITION. LINK, the data link layer decoder (41_link.md). -/

namespace Sys2Proof.Machine

/-- LINK (R140): slices the 10-byte link header into the twelve link registers. It tests nothing: the marker was tested
by VALIDATE alone (R133), the length byte and the crc are stored and never checked (R142, R146). -/
def execLink (s : State) : Host.Outcome State Fault Refusal :=
  withHalfBE s 0 fun start =>
  withByte s 2 fun len =>
  withByte s 3 fun ctrl =>
  withHalfLE s 4 fun dst =>
  withHalfLE s 6 fun src =>
  withHalfLE s 8 fun crc =>
  .next ((s.setRecord (s.record.withLink start len ctrl dst src crc)).setStage .transport)

end Sys2Proof.Machine
end

