-- ==== Sys2Proof/Machine/LinkCodes.lean ====
section
/-! DEFINITION. The 32 link code rows (44_code_tables.md sections 2 and 3). The only effect of a row is the ROM entry
written to DL_LBL (R208); DIR, FCB and FCV take no part in the lookup (41_link.md R144, R206). -/

namespace Sys2Proof.Machine

/-- The shared effect of a link row: DL_LBL receives the entry LRESOLVE gives for the row's PRM and FC (R143, R208). -/
def writeLinkLabel (prm : Bit) (fc : BitVec 4) (s : State) : Host.Outcome State Fault Refusal :=
  .next (s.setDlLbl (lresolve prm fc))

/-- LPF_00 (R210): ROM_PRI[0], NAME_PRI_0. -/
def execLpf00 (_dir _fcb _fcv : Bit) (s : State) : Host.Outcome State Fault Refusal := writeLinkLabel 1 0 s

/-- LPF_01 (R211): ROM_PRI[1], NAME_PRI_1. -/
def execLpf01 (_dir _fcb _fcv : Bit) (s : State) : Host.Outcome State Fault Refusal := writeLinkLabel 1 1 s

/-- LPF_02 (R212): ROM_PRI[2], NAME_PRI_2. -/
def execLpf02 (_dir _fcb _fcv : Bit) (s : State) : Host.Outcome State Fault Refusal := writeLinkLabel 1 2 s

/-- LPF_03 (R213): ROM_PRI[3], NAME_PRI_3. -/
def execLpf03 (_dir _fcb _fcv : Bit) (s : State) : Host.Outcome State Fault Refusal := writeLinkLabel 1 3 s

/-- LPF_04 (R214): ROM_PRI[4], the source's name "Unconfirmed User Data". -/
def execLpf04 (_dir _fcb _fcv : Bit) (s : State) : Host.Outcome State Fault Refusal := writeLinkLabel 1 4 s

/-- LPF_05 (R215): ROM_PRI[5], an unused index, the placeholder. -/
def execLpf05 (_dir _fcb _fcv : Bit) (s : State) : Host.Outcome State Fault Refusal := writeLinkLabel 1 5 s

/-- LPF_06 (R216): ROM_PRI[6], an unused index, the placeholder. -/
def execLpf06 (_dir _fcb _fcv : Bit) (s : State) : Host.Outcome State Fault Refusal := writeLinkLabel 1 6 s

/-- LPF_07 (R217): ROM_PRI[7], an unused index, the placeholder. -/
def execLpf07 (_dir _fcb _fcv : Bit) (s : State) : Host.Outcome State Fault Refusal := writeLinkLabel 1 7 s

/-- LPF_08 (R218): ROM_PRI[8], an unused index, the placeholder. -/
def execLpf08 (_dir _fcb _fcv : Bit) (s : State) : Host.Outcome State Fault Refusal := writeLinkLabel 1 8 s

/-- LPF_09 (R219): ROM_PRI[9], NAME_PRI_9. -/
def execLpf09 (_dir _fcb _fcv : Bit) (s : State) : Host.Outcome State Fault Refusal := writeLinkLabel 1 9 s

/-- LPF_10 (R220): ROM_PRI[10], an unused index, the placeholder. -/
def execLpf10 (_dir _fcb _fcv : Bit) (s : State) : Host.Outcome State Fault Refusal := writeLinkLabel 1 10 s

/-- LPF_11 (R221): ROM_PRI[11], an unused index, the placeholder. -/
def execLpf11 (_dir _fcb _fcv : Bit) (s : State) : Host.Outcome State Fault Refusal := writeLinkLabel 1 11 s

/-- LPF_12 (R222): ROM_PRI[12], an unused index, the placeholder. -/
def execLpf12 (_dir _fcb _fcv : Bit) (s : State) : Host.Outcome State Fault Refusal := writeLinkLabel 1 12 s

/-- LPF_13 (R223): ROM_PRI[13], an unused index, the placeholder. -/
def execLpf13 (_dir _fcb _fcv : Bit) (s : State) : Host.Outcome State Fault Refusal := writeLinkLabel 1 13 s

/-- LPF_14 (R224): ROM_PRI[14], NAME_PRI_14. -/
def execLpf14 (_dir _fcb _fcv : Bit) (s : State) : Host.Outcome State Fault Refusal := writeLinkLabel 1 14 s

/-- LPF_15 (R225): ROM_PRI[15], NAME_PRI_15. -/
def execLpf15 (_dir _fcb _fcv : Bit) (s : State) : Host.Outcome State Fault Refusal := writeLinkLabel 1 15 s

/-- LSF_00 (R226): ROM_SEC[0]. -/
def execLsf00 (_dir _fcb _fcv : Bit) (s : State) : Host.Outcome State Fault Refusal := writeLinkLabel 0 0 s

/-- LSF_01 (R227): ROM_SEC[1]. -/
def execLsf01 (_dir _fcb _fcv : Bit) (s : State) : Host.Outcome State Fault Refusal := writeLinkLabel 0 1 s

/-- LSF_02 (R228): ROM_SEC[2]. -/
def execLsf02 (_dir _fcb _fcv : Bit) (s : State) : Host.Outcome State Fault Refusal := writeLinkLabel 0 2 s

/-- LSF_03 (R229): ROM_SEC[3]. -/
def execLsf03 (_dir _fcb _fcv : Bit) (s : State) : Host.Outcome State Fault Refusal := writeLinkLabel 0 3 s

/-- LSF_04 (R230): ROM_SEC[4]. -/
def execLsf04 (_dir _fcb _fcv : Bit) (s : State) : Host.Outcome State Fault Refusal := writeLinkLabel 0 4 s

/-- LSF_05 (R231): ROM_SEC[5]. -/
def execLsf05 (_dir _fcb _fcv : Bit) (s : State) : Host.Outcome State Fault Refusal := writeLinkLabel 0 5 s

/-- LSF_06 (R232): ROM_SEC[6]. -/
def execLsf06 (_dir _fcb _fcv : Bit) (s : State) : Host.Outcome State Fault Refusal := writeLinkLabel 0 6 s

/-- LSF_07 (R233): ROM_SEC[7]. -/
def execLsf07 (_dir _fcb _fcv : Bit) (s : State) : Host.Outcome State Fault Refusal := writeLinkLabel 0 7 s

/-- LSF_08 (R234): ROM_SEC[8]. -/
def execLsf08 (_dir _fcb _fcv : Bit) (s : State) : Host.Outcome State Fault Refusal := writeLinkLabel 0 8 s

/-- LSF_09 (R235): ROM_SEC[9]. -/
def execLsf09 (_dir _fcb _fcv : Bit) (s : State) : Host.Outcome State Fault Refusal := writeLinkLabel 0 9 s

/-- LSF_10 (R236): ROM_SEC[10]. -/
def execLsf10 (_dir _fcb _fcv : Bit) (s : State) : Host.Outcome State Fault Refusal := writeLinkLabel 0 10 s

/-- LSF_11 (R237): ROM_SEC[11]. -/
def execLsf11 (_dir _fcb _fcv : Bit) (s : State) : Host.Outcome State Fault Refusal := writeLinkLabel 0 11 s

/-- LSF_12 (R238): ROM_SEC[12]. -/
def execLsf12 (_dir _fcb _fcv : Bit) (s : State) : Host.Outcome State Fault Refusal := writeLinkLabel 0 12 s

/-- LSF_13 (R239): ROM_SEC[13]. -/
def execLsf13 (_dir _fcb _fcv : Bit) (s : State) : Host.Outcome State Fault Refusal := writeLinkLabel 0 13 s

/-- LSF_14 (R240): ROM_SEC[14]. -/
def execLsf14 (_dir _fcb _fcv : Bit) (s : State) : Host.Outcome State Fault Refusal := writeLinkLabel 0 14 s

/-- LSF_15 (R241): ROM_SEC[15]. -/
def execLsf15 (_dir _fcb _fcv : Bit) (s : State) : Host.Outcome State Fault Refusal := writeLinkLabel 0 15 s

end Sys2Proof.Machine
end

