-- ==== Sys2Proof/Machine/Transport.lean ====
section
/-! DEFINITION. TRANSPORT, the transport layer decoder (42_transport.md). -/

namespace Sys2Proof.Machine

/-- TRANSPORT (R160, with the length guard of R161): FIN is bit 7 and FIR bit 6 here (10_state.md R23). -/
def execTransport (s : State) : Host.Outcome State Fault Refusal :=
  if s.flen < minTransport then .next (s.raiseFailure .frameTooShort)
  else withByte s 10 fun t =>
    .next ((s.setRecord (s.record.withTransport t)).setStage .app)

end Sys2Proof.Machine
end

