-- ==== Sys2Proof/Machine/Validate.lean ====
section
/-! DEFINITION. VALIDATE, the frame validator (40_validate.md). -/

namespace Sys2Proof.Machine

/-- VALIDATE (R130): the length test comes before any byte is read, then the marker test. -/
def execValidate (s : State) : Host.Outcome State Fault Refusal :=
  if s.flen < minLink then .next (s.raiseFailure .frameTooShort)
  else withHalfBE s 0 fun start =>
    if start ≠ startMarker then .next (s.raiseFailure .notDnp3)
    else .next (s.setStage .link)

end Sys2Proof.Machine
end

