-- ==== Sys2Proof/Machine/Dispatch.lean ====
section
/-! DEFINITION. exec: one arm per constructor of Instr, each a direct call of its meaning. -/

namespace Sys2Proof.Machine

-- The meaning of one instruction, whatever STAGE holds: the sequencer (Fetch.lean) chooses it (log 12).
def exec (i : Instr) (s : State) : Host.Outcome State Fault Refusal :=
  match i with
  | .start => Sys2Proof.Machine.execStart s
  | .validate => Sys2Proof.Machine.execValidate s
  | .link => Sys2Proof.Machine.execLink s
  | .transport => Sys2Proof.Machine.execTransport s
  | .app => Sys2Proof.Machine.execApp s
  | .lpf00 dir fcb fcv => Sys2Proof.Machine.execLpf00 dir fcb fcv s
  | .lpf01 dir fcb fcv => Sys2Proof.Machine.execLpf01 dir fcb fcv s
  | .lpf02 dir fcb fcv => Sys2Proof.Machine.execLpf02 dir fcb fcv s
  | .lpf03 dir fcb fcv => Sys2Proof.Machine.execLpf03 dir fcb fcv s
  | .lpf04 dir fcb fcv => Sys2Proof.Machine.execLpf04 dir fcb fcv s
  | .lpf05 dir fcb fcv => Sys2Proof.Machine.execLpf05 dir fcb fcv s
  | .lpf06 dir fcb fcv => Sys2Proof.Machine.execLpf06 dir fcb fcv s
  | .lpf07 dir fcb fcv => Sys2Proof.Machine.execLpf07 dir fcb fcv s
  | .lpf08 dir fcb fcv => Sys2Proof.Machine.execLpf08 dir fcb fcv s
  | .lpf09 dir fcb fcv => Sys2Proof.Machine.execLpf09 dir fcb fcv s
  | .lpf10 dir fcb fcv => Sys2Proof.Machine.execLpf10 dir fcb fcv s
  | .lpf11 dir fcb fcv => Sys2Proof.Machine.execLpf11 dir fcb fcv s
  | .lpf12 dir fcb fcv => Sys2Proof.Machine.execLpf12 dir fcb fcv s
  | .lpf13 dir fcb fcv => Sys2Proof.Machine.execLpf13 dir fcb fcv s
  | .lpf14 dir fcb fcv => Sys2Proof.Machine.execLpf14 dir fcb fcv s
  | .lpf15 dir fcb fcv => Sys2Proof.Machine.execLpf15 dir fcb fcv s
  | .lsf00 dir fcb fcv => Sys2Proof.Machine.execLsf00 dir fcb fcv s
  | .lsf01 dir fcb fcv => Sys2Proof.Machine.execLsf01 dir fcb fcv s
  | .lsf02 dir fcb fcv => Sys2Proof.Machine.execLsf02 dir fcb fcv s
  | .lsf03 dir fcb fcv => Sys2Proof.Machine.execLsf03 dir fcb fcv s
  | .lsf04 dir fcb fcv => Sys2Proof.Machine.execLsf04 dir fcb fcv s
  | .lsf05 dir fcb fcv => Sys2Proof.Machine.execLsf05 dir fcb fcv s
  | .lsf06 dir fcb fcv => Sys2Proof.Machine.execLsf06 dir fcb fcv s
  | .lsf07 dir fcb fcv => Sys2Proof.Machine.execLsf07 dir fcb fcv s
  | .lsf08 dir fcb fcv => Sys2Proof.Machine.execLsf08 dir fcb fcv s
  | .lsf09 dir fcb fcv => Sys2Proof.Machine.execLsf09 dir fcb fcv s
  | .lsf10 dir fcb fcv => Sys2Proof.Machine.execLsf10 dir fcb fcv s
  | .lsf11 dir fcb fcv => Sys2Proof.Machine.execLsf11 dir fcb fcv s
  | .lsf12 dir fcb fcv => Sys2Proof.Machine.execLsf12 dir fcb fcv s
  | .lsf13 dir fcb fcv => Sys2Proof.Machine.execLsf13 dir fcb fcv s
  | .lsf14 dir fcb fcv => Sys2Proof.Machine.execLsf14 dir fcb fcv s
  | .lsf15 dir fcb fcv => Sys2Proof.Machine.execLsf15 dir fcb fcv s
  | .afc000 => Sys2Proof.Machine.execAfc000 s
  | .afc001 => Sys2Proof.Machine.execAfc001 s
  | .afc002 => Sys2Proof.Machine.execAfc002 s
  | .afc003 => Sys2Proof.Machine.execAfc003 s
  | .afc004 => Sys2Proof.Machine.execAfc004 s
  | .afc005 => Sys2Proof.Machine.execAfc005 s
  | .afc006 => Sys2Proof.Machine.execAfc006 s
  | .afc007 => Sys2Proof.Machine.execAfc007 s
  | .afc008 => Sys2Proof.Machine.execAfc008 s
  | .afc009 => Sys2Proof.Machine.execAfc009 s
  | .afc010 => Sys2Proof.Machine.execAfc010 s
  | .afc011 => Sys2Proof.Machine.execAfc011 s
  | .afc012 => Sys2Proof.Machine.execAfc012 s
  | .afc013 => Sys2Proof.Machine.execAfc013 s
  | .afc014 => Sys2Proof.Machine.execAfc014 s
  | .afc015 => Sys2Proof.Machine.execAfc015 s
  | .afc016 => Sys2Proof.Machine.execAfc016 s
  | .afc017 => Sys2Proof.Machine.execAfc017 s
  | .afc018 => Sys2Proof.Machine.execAfc018 s
  | .afc019 => Sys2Proof.Machine.execAfc019 s
  | .afc020 => Sys2Proof.Machine.execAfc020 s
  | .afc021 => Sys2Proof.Machine.execAfc021 s
  | .afc022 => Sys2Proof.Machine.execAfc022 s
  | .afc023 => Sys2Proof.Machine.execAfc023 s
  | .afc024 => Sys2Proof.Machine.execAfc024 s
  | .afc025 => Sys2Proof.Machine.execAfc025 s
  | .afc026 => Sys2Proof.Machine.execAfc026 s
  | .afc027 => Sys2Proof.Machine.execAfc027 s
  | .afc028 => Sys2Proof.Machine.execAfc028 s
  | .afc029 => Sys2Proof.Machine.execAfc029 s
  | .afc030 => Sys2Proof.Machine.execAfc030 s
  | .afc031 => Sys2Proof.Machine.execAfc031 s
  | .afc032 => Sys2Proof.Machine.execAfc032 s
  | .afc033 => Sys2Proof.Machine.execAfc033 s
  | .afc129 => Sys2Proof.Machine.execAfc129 s
  | .afc130 => Sys2Proof.Machine.execAfc130 s
  | .afc131 => Sys2Proof.Machine.execAfc131 s
  | .afcUnassigned code => Sys2Proof.Machine.execAfcUnassigned code s

end Sys2Proof.Machine
end

