-- ==== Sys2Proof/Machine/Fetch.lean ====
section
/-! DEFINITION. What a step runs: the operation STAGE names and the code row the frame selects in it (45_control.md R302
to R306, 30_encoding.md R106), or the command a write to CMD gives. -/

namespace Sys2Proof.Machine

/-- The command of a write to CMD: START when bit 0 is 1, else none (10_state.md R33). -/
def fetchCommand (w : Byte) : List Instr := (decode .hostCmd [w]).instr?.toList

/-- The stage operation STAGE names; none in IDLE (R302). -/
def fetchStage (s : State) : List Instr := (decode .stage [s.stage.code.setWidth 8]).instr?.toList

/-- The code row selected within the operation, where the table names the codes `named`: in LINK by the control byte at
offset 3, in APP, when it decodes its bytes at all, by the function byte at offset 12 (R105, R106). -/
def rowIn (named : Byte → Bool) (s : State) : List Instr :=
  match s.stage with
  | .link => if 3 < s.flen then (decodeIn named .linkCtrl [byteAt s 3]).instr?.toList else []
  | .app => if minApp ≤ s.flen then (decodeIn named .appFc [byteAt s 12]).instr?.toList else []
  | _ => []

/-- The row the build selects: an application code its table does not name selects AFC_UNASSIGNED (R105 c, R279). -/
def selectedRow (s : State) : List Instr := rowIn romNamed s

/-- The row a step runs: selected from the opcode table alone (R281). Where it is not `selectedRow`, both write the
placeholder, so the step is the one that runs `selectedRow`: the obligation StepRunsTheRowTheBuildSelects (log 2, 15). -/
def fetchRow (s : State) : List Instr := rowIn inAppRange s

/-- The instructions of PARSER's next step, in order. -/
def fetch (s : State) : List Instr := fetchStage s ++ fetchRow s

/-! ## Placing a word where the next step fetches it -/

/-- Bytes placed in the buffer from an offset on. -/
def Memory.writeAll (fb : Memory) : Nat → List Byte → Memory
  | _, [] => fb
  | a, b :: bs => Memory.writeAll (fb.write a b) (a + 1) bs

/-- A stage of a transaction with the bytes it decodes in place, FLEN long enough for them, and HOST silent (log 5). -/
def State.atStage (s : State) (v : Stage) (need offset : Nat) (bytes : List Byte) : State :=
  { s with
    stage := v
    flen := max s.flen need
    fb := s.fb.writeAll offset bytes
    host := .quiet :: s.host }

end Sys2Proof.Machine
end

