-- ==== Sys2Proof/Machine/HostPort.lean ====
section
/-! DEFINITION. What HOST can do to the machine beside START: write the frame buffer and FLEN, apply reset, read STATUS
and the record (10_state.md R20, 45_control.md R311, 70_reset_and_hazards.md). -/

namespace Sys2Proof.Machine

/-- The offsets PARSER may read, 0 to 12 (20_memory.md R68). -/
def parserReads (offset : Nat) : Bool := offset < minApp

/-- HOST writes a buffer byte. Changing a byte PARSER may read while a transaction runs breaks R370: refused (log 10).
Bytes at offsets 13 and above may change freely (log 19). -/
def hostWriteByte (offset : Nat) (value : Byte) (s : State) : Host.Outcome State Fault Refusal :=
  if s.busy && parserReads offset && s.fb.read? offset != some value then .refused .bufferChangedDuringTransaction
  else .next { s with fb := s.fb.write offset value }

/-- HOST writes FLEN. Beyond FB_MAX it is refused (R371, log 9); changing it while a transaction runs breaks R370. -/
def hostWriteLen (length : Nat) (s : State) : Host.Outcome State Fault Refusal :=
  if s.busy && length != s.flen then .refused .bufferChangedDuringTransaction
  else if Config.fbMax < length then .refused .lengthBeyondMax
  else .next { s with flen := length }

/-- Reset (R360): at any time, immediate and total over STAGE, RESULT and REC; FLEN, the buffer and the ROMs are not
touched. -/
def hostReset (s : State) : Host.Outcome State Fault Refusal :=
  .next (((s.clearRecord).setResult .none).setStage .idle)

/-! ## Reads, without side effect (R35, R311) -/

/-- What a read of a record register gives: a number, zero-extended to 16 bits, or a label. -/
inductive RecValue where
  | number (v : Half)
  | label (e : LabelEntry)
  deriving DecidableEq, Repr

/-- Register `n` of REC by its number (10_state.md R22). -/
def Record.reg (r : Record) (n : Fin 24) : RecValue :=
  match n.val with
  | 0 => .number r.dlStart
  | 1 => .number (r.dlLen.setWidth 16)
  | 2 => .number (r.dlCtrl.setWidth 16)
  | 3 => .number (r.dlDir.setWidth 16)
  | 4 => .number (r.dlPrm.setWidth 16)
  | 5 => .number (r.dlFcb.setWidth 16)
  | 6 => .number (r.dlFcv.setWidth 16)
  | 7 => .number (r.dlFc.setWidth 16)
  | 8 => .label r.dlLbl
  | 9 => .number r.dlDst
  | 10 => .number r.dlSrc
  | 11 => .number r.dlCrc
  | 12 => .number (r.trByte.setWidth 16)
  | 13 => .number (r.trFin.setWidth 16)
  | 14 => .number (r.trFir.setWidth 16)
  | 15 => .number (r.trSeq.setWidth 16)
  | 16 => .number (r.apCtrl.setWidth 16)
  | 17 => .number (r.apFir.setWidth 16)
  | 18 => .number (r.apFin.setWidth 16)
  | 19 => .number (r.apCon.setWidth 16)
  | 20 => .number (r.apUns.setWidth 16)
  | 21 => .number (r.apSeq.setWidth 16)
  | 22 => .number (r.apFc.setWidth 16)
  | _ => .label r.apLbl

/-- What a read gives while a transaction runs: any value (R372, U3; log 18). -/
def busyValue (k : Nat) (n : Fin 24) : RecValue :=
  if n.val = 8 ∨ n.val = 23 then .label (Config.busyLabel k n) else .number (Config.busyNumber k n)

/-- HOST's `k`-th read of a record register: the register in IDLE, a free value while a transaction runs (R372). -/
def readRec (k : Nat) (s : State) (n : Fin 24) : RecValue :=
  if s.stage = .idle then Record.reg s.record n else busyValue k n

/-- The DecodedFrame HOST may take: the record when STAGE = IDLE and RESULT = OK, else there is none (R311). -/
def readFrame (s : State) : Option Record :=
  if s.stage = .idle ∧ s.result = .ok then some s.record else none

/-! ## The order of a correct use (R365) -/

/-- HOST's writes of a frame's bytes to the buffer from an offset on (R364). -/
def writeFrom : Nat → List Byte → List HostMove
  | _, [] => []
  | a, b :: bs => .writeByte a b :: writeFrom (a + 1) bs

/-- One transaction as HOST drives it: write buffer and FLEN, START, leave PARSER its four steps (R308, R365). -/
def transactionScript (frame : List Byte) : List HostMove :=
  writeFrom 0 frame ++ [.writeLen frame.length, .writeCmd 0x01, .quiet, .quiet, .quiet, .quiet]

end Sys2Proof.Machine
end

