-- ==== Sys2Proof/Machine/Sequencer.lean ====
section
/-! DEFINITION. Running the instructions a step has fetched, and a move of HOST. -/

namespace Sys2Proof.Machine

/-- The instructions of a list, one after the other, stopping at the first that gives no next state. -/
def runAll : List Instr → State → Host.Outcome State Fault Refusal
  | [], s => .next s
  | i :: rest, s =>
    match exec i s with
    | .next t => runAll rest t
    | .fault r => .fault r
    | .refused r => .refused r

/-- PARSER's step (45_control.md R302): the operation STAGE names, with its code row. In IDLE there is none and the
machine rests (log 4). -/
def parserStep (s : State) : Host.Outcome State Fault Refusal := runAll (fetch s) s

/-- HOST's move, then: a quiet move is PARSER's step; a write to CMD runs the command it gives. -/
def applyMove (m : HostMove) (s : State) : Host.Outcome State Fault Refusal :=
  match m with
  | .quiet => parserStep s
  | .writeByte offset value => hostWriteByte offset value s
  | .writeLen length => hostWriteLen length s
  | .writeCmd w => runAll (fetchCommand w) s
  | .reset => hostReset s

end Sys2Proof.Machine
end

