-- ==== Sys2Proof/Machine/Step.lean ====
section
/-! DEFINITION. One step of the machine, and where a word of the opcode table is fetched from. -/

namespace Sys2Proof.Machine

/-- One step: HOST's oldest listed move, taken off the list; with none listed HOST is silent and PARSER steps (log 3). -/
def step (s : State) : Host.Outcome State Fault Refusal :=
  match s.host with
  | [] => parserStep s
  | m :: rest => applyMove m { s with host := rest }

/-- The state whose next step runs the instruction of a word of spec/opcode_table.json (log 5). START is written to CMD;
any other row stands where its stage decodes it. -/
def State.withFetchWord (s : State) (nbits w : Nat) : State :=
  match decodeTableWord nbits w with
  | none => s
  | some .start => { s with host := .writeCmd (BitVec.ofNat 8 w) :: s.host }
  | some .validate => s.atStage .validate minLink 0 (bytesOfWord w 2).reverse
  | some .link => s.atStage .link minLink 0 (bytesOfWord w 10)
  | some .transport => s.atStage .transport minTransport 10 (bytesOfWord w 1)
  | some .app => s.atStage .app minApp 11 (bytesOfWord w 2)
  | some i =>
    match i.space with
    | .linkCtrl => s.atStage .link minLink 3 (bytesOfWord w 1)
    | _ => s.atStage .app minApp 12 (bytesOfWord w 1)

end Sys2Proof.Machine
end

