-- ==== Sys2Proof/Machine/DefaultInstance.lean ====
section
/-! DEFINITION. The default instance of the code tables (44_code_tables.md sections 2 to 4, 93_implementation_defined.md
G1 to G5). The spec marks every name but primary index 4 as general knowledge: no definition of the machine uses this
file, and a statement that uses it names it as its premise. -/

namespace Sys2Proof.Machine

/-- Primary names by index; unused indices and index 4 carry no parameter (G1, G2). -/
def defaultPriNames : List String := [
    "Reset of Remote Link", "Reset of User Process", "Test Function For Link",
    "User Data", "Unconfirmed User Data", "",
    "", "", "",
    "Request Link Status", "", "",
    "", "", "Primary Function 14",
    "Primary Function 15"]

/-- Secondary names by index (G3). -/
def defaultSecNames : List String := [
    "ACK", "NACK", "",
    "", "", "",
    "", "", "",
    "", "", "Status of Link",
    "", "", "Link Service Not Functioning",
    "Link Service Not Used or Implemented"]

/-- Names of the request codes 0 to 33 (G4). -/
def defaultRequestNames : List String := [
    "Confirm", "Read", "Write",
    "Select", "Operate", "Direct Operate",
    "Direct Operate No Ack", "Immediate Freeze", "Immediate Freeze No Ack",
    "Freeze and Clear", "Freeze and Clear No Ack", "Freeze With Time",
    "Freeze With Time No Ack", "Cold Restart", "Warm Restart",
    "Initialize Data", "Initialize Application", "Start Application",
    "Stop Application", "Save Configuration", "Enable Unsolicited Messages",
    "Disable Unsolicited Messages", "Assign Classes", "Delay Measurement",
    "Record Current Time", "Open File", "Close File",
    "Delete File", "Get File Info", "Authenticate File",
    "Abort File", "Activate Configuration", "Authentication Request",
    "Authentication Error"]

/-- Names of the response codes 129 to 131 (G4). -/
def defaultResponseNames : List String := [
    "Response", "Unsolicited Response", "Authentication Response"]

/-- Internal-indication bit meanings, first octet bits 0 to 7, then the second octet's (G5). -/
def defaultIinNames : List String := [
    "All Stations", "Class 1 Data Available", "Class 2 Data Available",
    "Class 3 Data Available", "Time Sync Required", "Local Control",
    "Device Trouble", "Device Restart", "Function Code Not Supported",
    "Object Unknown", "Parameter Error", "Event Buffer Overflow",
    "Already Executing", "Configuration Corrupt", "Reserved",
    "Reserved"]

/-- Object prefix codes 0 to 7 (G5). -/
def defaultPfxNames : List String := [
    "No prefix", "1-octet index prefix", "2-octet index prefix",
    "4-octet index prefix", "1-octet object size prefix", "2-octet object size prefix",
    "4-octet object size prefix", "Reserved"]

/-- Range-specifier codes 0 to 15 (G5). -/
def defaultRngNames : List String := [
    "1-octet start and stop indexes", "2-octet start and stop indexes", "4-octet start and stop indexes",
    "1-octet start and stop virtual addresses", "2-octet start and stop virtual addresses", "4-octet start and stop virtual addresses",
    "No range field (all objects)", "1-octet count", "2-octet count",
    "4-octet count", "Reserved", "1-octet count (variable format)",
    "Reserved", "Reserved", "Reserved",
    "Reserved"]

/-- The default name of an application code. -/
def defaultAppName (c : Byte) : String :=
  if c.toNat ≤ 33 then defaultRequestNames.getD c.toNat "" else defaultResponseNames.getD (c.toNat - 129) ""

/-- The default instance: SEC_USED = 0, 1, 11, 14, 15 (R204), APP_NAMED = all 37 codes of the two ranges (R205). -/
def defaultRoms : Roms where
  namePri i := defaultPriNames.getD i.toNat ""
  secUsed i := [0, 1, 11, 14, 15].contains i.toNat
  nameSec i := defaultSecNames.getD i.toNat ""
  appNamed c := inAppRange c
  nameApp := defaultAppName
  iin i := defaultIinNames.getD i.toNat ""
  pfx i := defaultPfxNames.getD i.toNat ""
  rng i := defaultRngNames.getD i.toNat ""

end Sys2Proof.Machine
end

