-- ==== Sys2Proof/Machine/Instances.lean ====
section
/-! DEFINITION. Several instances: the product of single-instance models (60_exceptions.md R341, 20_memory.md R73). The
ROMs are constants and shared; everything else is each instance's own. The
free value of an unwritten buffer byte is a constant too and so the same in all instances (DESIGN CHOICE, log 7). -/

namespace Sys2Proof.Machine

/-- The instances, by position. Nothing in an instance's state says which position it has (R341). -/
abbrev Instances := List State

/-- N_INST instances. -/
def Instances.wf (m : Instances) : Prop := m.length = Config.nInst

/-- All instances start in IDLE at reset (R341). -/
def Instances.reset : Instances := List.replicate Config.nInst State.reset

/-- Instance `k` takes one step and the others do nothing; a number with no instance changes nothing. -/
def stepInstance (k : Nat) (m : Instances) : Host.Outcome Instances Fault Refusal :=
  match m[k]? with
  | none => .next m
  | some s =>
    match step s with
    | .next t => .next (m.set k t)
    | .fault r => .fault r
    | .refused r => .refused r

end Sys2Proof.Machine
end

