-- ==== Sys2Proof/Machine/Render.lean ====
section
/-! DEFINITION. The text renderings HOST applies to the record (30_encoding.md R110 to R113): host-side functions, not
outputs of the hardware. -/

namespace Sys2Proof.Machine

/-- dec(n): the shortest decimal numeral (R112; log 21). -/
def dec (n : Nat) : String := String.ofList (Nat.toDigits 10 n)

/-- A lower-case hexadecimal digit (R112). -/
def hexDigit (v : BitVec 4) : Char :=
  ['0', '1', '2', '3', '4', '5', '6', '7', '8', '9', 'a', 'b', 'c', 'd', 'e', 'f'].getD v.toNat '0'

/-- hex2(n): exactly two digits, most significant first (R112). -/
def hex2 (v : Byte) : String := String.ofList [hexDigit (v.extractLsb' 4 4), hexDigit (v.extractLsb' 0 4)]

/-- hex4(n): exactly four digits, most significant first (R112). -/
def hex4 (v : Half) : String :=
  String.ofList [hexDigit (v.extractLsb' 12 4), hexDigit (v.extractLsb' 8 4), hexDigit (v.extractLsb' 4 4),
    hexDigit (v.extractLsb' 0 4)]

/-- render_link(lbl, fc): the code in decimal (R110). -/
def renderLink (lbl : LabelEntry) (fc : BitVec 4) : String := lbl.name ++ " (" ++ dec fc.toNat ++ ")"

/-- render_app(lbl, fc): the code as 0x and two hex digits (R111, 90_conflicts.md C3). -/
def renderApp (lbl : LabelEntry) (fc : Byte) : String := lbl.name ++ " (0x" ++ hex2 fc ++ ")"

/-- The link label text of a record (41_link.md R147). -/
def Record.linkText (r : Record) : String := renderLink r.dlLbl r.dlFc

/-- The application label text of a record (43_application.md R175). -/
def Record.appText (r : Record) : String := renderApp r.apLbl r.apFc

/-- The hex text of `start` (R113). -/
def Record.startText (r : Record) : String := "0x" ++ hex4 r.dlStart

/-- The hex text of `crc`: the little-endian value, not the wire order (R113). -/
def Record.crcText (r : Record) : String := "0x" ++ hex4 r.dlCrc

/-- The hex text of `transportByte` (R113). -/
def Record.transportText (r : Record) : String := "0x" ++ hex2 r.trByte

/-- The hex text of the application `controlByte` (R113). -/
def Record.appCtrlText (r : Record) : String := "0x" ++ hex2 r.apCtrl

end Sys2Proof.Machine
end

