-- ==== Sys2Proof/Machine/Transaction.lean ====
section
/-! DEFINITION. DECODE, the whole transaction as one function of the buffer (45_control.md R307), written with the bit
and slice notation of 00_scope.md R8 and not with the extractor the stage operations use. -/

namespace Sys2Proof.Machine

/-- `Result` of 00_scope.md R12: a record, or one of the two failures. -/
inductive FrameResult where
  | ok (record : Record)
  | error (kind : Failure)
  deriving DecidableEq, Repr

/-- `v[i]` of R8. -/
def bitAt (v : Byte) (i : Nat) : Bit := v.extractLsb' i 1

/-- The record DECODE gives for a good buffer (R307). -/
def decodedRecord (fb : Nat → Byte) : Record where
  dlStart := 0x0564
  dlLen := fb 2
  dlCtrl := fb 3
  dlDir := bitAt (fb 3) 7
  dlPrm := bitAt (fb 3) 6
  dlFcb := bitAt (fb 3) 5
  dlFcv := bitAt (fb 3) 4
  dlFc := (fb 3).extractLsb' 0 4
  dlLbl := if bitAt (fb 3) 6 = 1 then romPri ((fb 3).extractLsb' 0 4) else romSec ((fb 3).extractLsb' 0 4)
  dlDst := (fb 4).setWidth 16 ||| (fb 5).setWidth 16 <<< 8
  dlSrc := (fb 6).setWidth 16 ||| (fb 7).setWidth 16 <<< 8
  dlCrc := (fb 8).setWidth 16 ||| (fb 9).setWidth 16 <<< 8
  trByte := fb 10
  trFin := bitAt (fb 10) 7
  trFir := bitAt (fb 10) 6
  trSeq := (fb 10).extractLsb' 0 6
  apCtrl := fb 11
  apFir := bitAt (fb 11) 7
  apFin := bitAt (fb 11) 6
  apCon := bitAt (fb 11) 5
  apUns := bitAt (fb 11) 4
  apSeq := (fb 11).extractLsb' 0 4
  apFc := fb 12
  apLbl := romApp (fb 12)

/-- DECODE(fb, n) (R307). -/
def decodeFrame (fb : Nat → Byte) (n : Nat) : FrameResult :=
  if n < 10 then .error .frameTooShort
  else if fb 0 ≠ 0x05 ∨ fb 1 ≠ 0x64 then .error .notDnp3
  else if n < 13 then .error .frameTooShort
  else .ok (decodedRecord fb)

/-- The RESULT register of a result's register image (R307). -/
def FrameResult.result : FrameResult → Result
  | .ok _ => .ok
  | .error k => k.result

/-- REC of a result's register image: the record, or cleared on a failure (R307). -/
def FrameResult.record : FrameResult → Record
  | .ok r => r
  | .error _ => Record.cleared

/-- The state at rest with a result's register image; FB and FLEN as they are. -/
def State.withImage (s : State) (d : FrameResult) : State :=
  { s with stage := .idle, result := d.result, record := d.record }

/-- The bytes of a frame literal (30_encoding.md R114) as a buffer: byte i at offset i, and beyond the literal the bytes
`rest` gives. -/
def frameBytes (frame : List Byte) (rest : Nat → Byte) (a : Nat) : Byte := frame.getD a (rest a)

end Sys2Proof.Machine
end

