-- ==== Sys2Proof/Safety.lean ====
section
/-! DEFINITION. What the claims use to say that a state or a run is good: the invariant every step keeps, and the moves
STAGE may make. -/

namespace Sys2Proof.Machine

/-- The link half of 10_state.md R26. -/
def Record.linkConsistent (r : Record) : Prop :=
  r.dlStart = 0x0564 ∧ r.dlDir = bitAt r.dlCtrl 7 ∧ r.dlPrm = bitAt r.dlCtrl 6 ∧ r.dlFcb = bitAt r.dlCtrl 5 ∧
  r.dlFcv = bitAt r.dlCtrl 4 ∧ r.dlFc = r.dlCtrl.extractLsb' 0 4 ∧
  r.dlLbl = if r.dlPrm = 1 then romPri r.dlFc else romSec r.dlFc

/-- The transport half of R26. -/
def Record.transportConsistent (r : Record) : Prop :=
  r.trFin = bitAt r.trByte 7 ∧ r.trFir = bitAt r.trByte 6 ∧ r.trSeq = r.trByte.extractLsb' 0 6

/-- The application half of R26. -/
def Record.appConsistent (r : Record) : Prop :=
  r.apFir = bitAt r.apCtrl 7 ∧ r.apFin = bitAt r.apCtrl 6 ∧ r.apCon = bitAt r.apCtrl 5 ∧ r.apUns = bitAt r.apCtrl 4 ∧
  r.apSeq = r.apCtrl.extractLsb' 0 4 ∧ r.apLbl = romApp r.apFc

/-- R26, for a record that RESULT = OK makes valid. -/
def Record.consistent (r : Record) : Prop :=
  r.linkConsistent ∧ r.transportConsistent ∧ r.appConsistent

/-- The transport registers hold their reset values (R41). -/
def Record.transportClear (r : Record) : Prop :=
  r.trByte = 0 ∧ r.trFin = 0 ∧ r.trFir = 0 ∧ r.trSeq = 0

/-- The application registers hold their reset values (R41). -/
def Record.appClear (r : Record) : Prop :=
  r.apCtrl = 0 ∧ r.apFir = 0 ∧ r.apFin = 0 ∧ r.apCon = 0 ∧ r.apUns = 0 ∧ r.apSeq = 0 ∧ r.apFc = 0 ∧
  r.apLbl = LabelEntry.null

/-- What holds in each stage: at rest R26; while a transaction runs, RESULT is NONE, the earlier stages' length tests
passed (20_memory.md R66), their registers agree with R26, and the later stages' registers are clear. -/
def stageInvariant (s : State) : Prop :=
  match s.stage with
  | .idle => (s.result = .ok → s.record.consistent) ∧ (s.result ≠ .ok → s.record = Record.cleared)
  | .validate => s.result = .none ∧ s.record = Record.cleared
  | .link => s.result = .none ∧ s.record = Record.cleared ∧ 10 ≤ s.flen ∧ byteAt s 0 = 0x05 ∧ byteAt s 1 = 0x64
  | .transport =>
    s.result = .none ∧ 10 ≤ s.flen ∧ s.record.linkConsistent ∧ s.record.transportClear ∧ s.record.appClear
  | .app =>
    s.result = .none ∧ 11 ≤ s.flen ∧ s.record.linkConsistent ∧ s.record.transportConsistent ∧ s.record.appClear

/-- The invariant of the machine: the buffer memory keeps its canonical form, FLEN is at most FB_MAX (R34), and the
stage's part holds. -/
def Inv (s : State) : Prop :=
  s.fb.wf = true ∧ s.flen ≤ Config.fbMax ∧ stageInvariant s

/-- The moves of STAGE that R31 allows in one PARSER step or accepted START, rest among them. -/
def stageMoves (a b : Stage) : Prop :=
  match a with
  | .idle => b = .idle ∨ b = .validate
  | .validate => b = .link ∨ b = .idle
  | .link => b = .transport
  | .transport => b = .app ∨ b = .idle
  | .app => b = .idle

/-! ## Runs -/

/-- `k` steps of the machine, stopping at the first fault or refusal. -/
def runSteps : Nat → State → Host.Outcome State Fault Refusal
  | 0, s => .next s
  | k + 1, s =>
    match step s with
    | .next t => runSteps k t
    | .fault r => .fault r
    | .refused r => .refused r

/-- HOST's moves of one transaction on a buffer that is in place: a write to CMD, then PARSER's four steps (45_control.md
R308), before whatever HOST does next. -/
def startAndWait (w : Byte) (rest : List HostMove) : List HostMove :=
  .writeCmd w :: .quiet :: .quiet :: .quiet :: .quiet :: rest

/-! ## What a code row of the table means -/

/-- A link row: the control bytes its pattern selects decode to it, and it writes one entry to DL_LBL and nothing else
(44_code_tables.md R208, R281). -/
def linkRowMeans (row : Bit → Bit → Bit → Instr) (pattern : Byte) (e : LabelEntry) : Prop :=
  (∀ c : Byte, c &&& 0x4f = pattern → decode .linkCtrl [c] = .ok (row (bitAt c 7) (bitAt c 5) (bitAt c 4))) ∧
  ∀ (d b v : Bit) (s : State), exec (row d b v) s = .next { s with record := { s.record with dlLbl := e } }

/-- An application row: the function byte it is selected by decodes to it, and it writes one entry to AP_LBL and nothing
else (R208, R281). -/
def appRowMeans (row : Instr) (code : Byte) (e : LabelEntry) : Prop :=
  decode .appFc [code] = .ok row ∧
  ∀ s : State, exec row s = .next { s with record := { s.record with apLbl := e } }

/-- A name the tables may hold: a non-empty Text different from PLACEHOLDER_TEXT (R203 to R205). -/
def tableName (t : String) : Prop := t ≠ "" ∧ t ≠ placeholderText

end Sys2Proof.Machine
end

