-- ==== Sys2Proof/Certificates/Slice0/Obligations.lean ====
section
/-! DEFINITION. The statements for the provers, in the order of the spec's files. Each docstring names the rules it
rests on; "log n" is notes/assumptions/n.md. -/

open Sys2Proof Sys2Proof.Machine

/-! ## Encodings -/

/-- Decoding the encoder's words gives the instruction back, with every operand at every value (R30, R33, R105, R107,
R281). LINK, TRANSPORT and APP are encoded by their STAGE code. -/
def Obligations.DecodeOfEncodeIsTheInstruction : Prop :=
  ∀ i : Instr, i.wellFormed = true → decode i.space (encode i) = .ok i

/-- Every control byte and every function byte is the encoding of the row it decodes to (R106): no bit is dropped. -/
def Obligations.EveryCodeByteIsTheEncodingOfItsRow : Prop :=
  (∀ c : Byte, ∃ i : Instr,
    i.space = .linkCtrl ∧ i.wellFormed = true ∧ decode .linkCtrl [c] = .ok i ∧ encode i = [c]) ∧
  (∀ f : Byte, ∃ i : Instr,
    i.space = .appFc ∧ i.wellFormed = true ∧ decode .appFc [f] = .ok i ∧ encode i = [f])

/-- Every control byte matches exactly one of the 32 link rows; a function byte matches exactly one named row inside the
two ranges and none outside (R106). -/
def Obligations.ExactlyOneCodeRowMatchesEachByte : Prop :=
  ∀ b : Byte, (linkRows.filter fun r => r.hits b).length = 1 ∧
    (appRows.filter fun r => r.hits b).length = if inAppRange b then 1 else 0

/-- Words written out from the spec's encodings decode to the instructions they stand for (R30, R33, R91, R94, R107). -/
def Obligations.SpecWordsDecodeToTheirInstructions : Prop :=
  decode .hostCmd [0b00000001] = .ok .start ∧ decode .hostCmd [0b11111111] = .ok .start ∧
  decode .hostCmd [0b11111110] = .rejected .noCommand ∧
  decode .marker [0b00000101, 0b01100100] = .ok .validate ∧
  decode .marker [0b01100100, 0b00000101] = .rejected .notMarker ∧
  decode .stage [0b00000010] = .ok .link ∧ decode .stage [0b00000011] = .ok .transport ∧
  decode .stage [0b00000100] = .ok .app ∧
  decode .linkCtrl [0b11000100] = .ok (.lpf04 1 0 0) ∧ decode .linkCtrl [0b01110011] = .ok (.lpf03 0 1 1) ∧
  decode .linkCtrl [0b10001011] = .ok (.lsf11 1 0 0) ∧ decode .linkCtrl [0b00011110] = .ok (.lsf14 0 0 1) ∧
  decode .appFc [0b00100001] = .ok .afc033 ∧ decode .appFc [0b10000001] = .ok .afc129 ∧
  decode .appFc [0b00110010] = .ok (.afcUnassigned 50)

/-- The extracted fields of a link control byte, a transport byte and an application control byte, shifted back to their
places and joined, give the byte (R101). -/
def Obligations.ExtractedFieldsReconstructTheByte : Prop :=
  ∀ b : Byte,
    ((dirOf b).setWidth 8 <<< 7 ||| (prmOf b).setWidth 8 <<< 6 ||| (fcbOf b).setWidth 8 <<< 5 |||
      (fcvOf b).setWidth 8 <<< 4 ||| (fcOf b).setWidth 8 = b) ∧
    ((apFirOf b).setWidth 8 <<< 7 ||| (apFinOf b).setWidth 8 <<< 6 ||| (apConOf b).setWidth 8 <<< 5 |||
      (apUnsOf b).setWidth 8 <<< 4 ||| (apSeqOf b).setWidth 8 = b) ∧
    ((trFinOf b).setWidth 8 <<< 7 ||| (trFirOf b).setWidth 8 <<< 6 ||| (trSeqOf b).setWidth 8 = b)

/-- Which bit each flag is: FIN and FIR stand in opposite orders in the two headers (R23, R91 to R93). -/
def Obligations.FlagsAreTheirNamedBits : Prop :=
  ∀ b : Byte,
    trFinOf b = bitAt b 7 ∧ trFirOf b = bitAt b 6 ∧ apFirOf b = bitAt b 7 ∧ apFinOf b = bitAt b 6 ∧
    apConOf b = bitAt b 5 ∧ apUnsOf b = bitAt b 4 ∧ dirOf b = bitAt b 7 ∧ prmOf b = bitAt b 6 ∧
    fcbOf b = bitAt b 5 ∧ fcvOf b = bitAt b 4 ∧ fcOf b = b.extractLsb' 0 4

/-- The sequence fields wrap within their widths for all byte inputs (R102). -/
def Obligations.SequenceFieldsWrapInTheirWidth : Prop :=
  (∀ b : Byte, (trSeqOf b).toNat = b.toNat % 64 ∧ (apSeqOf b).toNat = b.toNat % 16) ∧
  trSeqOf 0x7f = 63 ∧ trSeqOf 0x80 = 0 ∧ apSeqOf 0x0f = 15 ∧ apSeqOf 0x10 = 0

/-- LE16 puts the byte at the lower offset in the low half, BE16 in the high half, and the two-byte buffer reads use them
(R98, R99). -/
def Obligations.HalvesAreAssembledInTheirByteOrder : Prop :=
  (∀ a b : Byte, (le16 a b).toNat = a.toNat + 256 * b.toNat ∧ (be16 a b).toNat = 256 * a.toNat + b.toNat) ∧
  ∀ (s : State) (a : Nat) (k : Half → Host.Outcome State Fault Refusal), a + 1 < s.flen →
    withHalfLE s a k = k (le16 (byteAt s a) (byteAt s (a + 1))) ∧
    withHalfBE s a k = k (be16 (byteAt s a) (byteAt s (a + 1)))

/-! ## The code tables -/

/-- ROM_PRI, for every value of its parameters (R203). -/
def Obligations.PrimaryTableHoldsWhatTheSourceFixes : Prop :=
  ∀ r : Roms,
    (∀ i ∈ ([5, 6, 7, 8, 10, 11, 12, 13] : List (BitVec 4)), Roms.pri r i = ⟨0, placeholderText⟩) ∧
    Roms.pri r 4 = ⟨1, "Unconfirmed User Data"⟩ ∧
    ∀ i ∈ ([0, 1, 2, 3, 9, 14, 15] : List (BitVec 4)), ∃ t, tableName t ∧ Roms.pri r i = ⟨1, t⟩

/-- ROM_SEC, for every value of its parameters, and SEC_USED of the default instance (R204). -/
def Obligations.SecondaryTableFollowsItsUsedSet : Prop :=
  (∀ (r : Roms) (i : BitVec 4),
    (r.secUsed i = true → ∃ t, tableName t ∧ Roms.sec r i = ⟨1, t⟩) ∧
    (r.secUsed i = false → Roms.sec r i = ⟨0, placeholderText⟩)) ∧
  ∀ i : BitVec 4, defaultRoms.secUsed i = true ↔ i ∈ ([0, 1, 11, 14, 15] : List (BitVec 4))

/-- ROM_APP, for every value of its parameters: nothing outside 0 to 33 and 129 to 131 is named, code 50 is a miss, and
inside the ranges APP_NAMED decides (R172, R205). -/
def Obligations.ApplicationTableNamesOnlyItsRanges : Prop :=
  ∀ r : Roms,
    (∀ c : Byte, 33 < c.toNat ∧ c.toNat < 129 ∨ 131 < c.toNat → Roms.app r c = ⟨0, placeholderText⟩) ∧
    Roms.app r 50 = ⟨0, placeholderText⟩ ∧
    (∀ c : Byte, c.toNat ≤ 33 ∨ 129 ≤ c.toNat ∧ c.toNat ≤ 131 →
      (r.appNamed c = true → ∃ t, tableName t ∧ Roms.app r c = ⟨1, t⟩) ∧
      (r.appNamed c = false → Roms.app r c = ⟨0, placeholderText⟩))

/-- The parameters leave nothing out: every choice of names, used indices and named codes that the constraints of R203 to
R205 allow is the contents of the ROMs for some value of them (R7; log 13). -/
def Obligations.EveryLegalTableIsAnInstance : Prop :=
  ∀ (namePri nameSec : BitVec 4 → String) (nameApp : Byte → String) (secUsed : BitVec 4 → Bool) (appNamed : Byte → Bool),
    (∀ i, tableName (namePri i)) → (∀ i, tableName (nameSec i)) → (∀ c, tableName (nameApp c)) →
    (∀ c, appNamed c = true → inAppRange c = true) →
    ∃ r : Roms,
      (∀ i ∈ ([0, 1, 2, 3, 9, 14, 15] : List (BitVec 4)), Roms.pri r i = ⟨1, namePri i⟩) ∧
      (∀ i, Roms.sec r i = if secUsed i then ⟨1, nameSec i⟩ else ⟨0, placeholderText⟩) ∧
      (∀ c, Roms.app r c = if appNamed c then ⟨1, nameApp c⟩ else ⟨0, placeholderText⟩)

/-- PRM = 1 reads the primary table and PRM = 0 the secondary one, and no lookup gives the cleared label or an empty name
(R27, R143, R173). -/
def Obligations.LookupsReadOneTableAndNeverGiveTheNullLabel : Prop :=
  (∀ fc : BitVec 4, lresolve 1 fc = romPri fc ∧ lresolve 0 fc = romSec fc) ∧
  (∀ (prm : Bit) (fc : BitVec 4), lresolve prm fc ≠ LabelEntry.null ∧ (lresolve prm fc).name ≠ "") ∧
  ∀ f : Byte, aresolve f ≠ LabelEntry.null ∧ (aresolve f).name ≠ ""

/-- Label and hex texts that hold for every table contents (R110 to R113, R202). The exact texts rest on choices that
the source does not force: the placeholder text Unassigned (decision D6, log 17), link codes in decimal, code 10 among
them, and lower-case hex digits (decision D17, log 21). -/
def Obligations.RenderedTextsOfEveryInstance : Prop :=
  ∀ r : Roms,
    renderLink (Roms.pri r 4) 4 = "Unconfirmed User Data (4)" ∧ renderLink (Roms.pri r 7) 7 = "Unassigned (7)" ∧
    renderLink (Roms.pri r 10) 10 = "Unassigned (10)" ∧
    renderApp (Roms.app r 50) 50 = "Unassigned (0x32)" ∧ renderApp (Roms.app r 255) 255 = "Unassigned (0xff)" ∧
    "0x" ++ hex4 0x0564 = "0x0564" ∧ "0x" ++ hex4 0x42fc = "0x42fc" ∧ "0x" ++ hex2 0xc0 = "0xc0"

/-- Texts of the default instance of the tables, which is general knowledge and not the source: the premise is the
instance itself (44_code_tables.md sections 2 to 4; 95_test_vectors.md V40, V41, V61). The exact texts (R110 to R112,
R202) also rest on choices that the source does not force: link codes in decimal, 11 and 15 among them, and lower-case
hex digits as in 0x0e (decision D17, log 21), and the placeholder text Unassigned (decision D6, log 17). -/
def Obligations.RenderedTextsOfTheDefaultInstance : Prop :=
  renderLink (Roms.pri defaultRoms 0) 0 = "Reset of Remote Link (0)" ∧
  renderLink (Roms.pri defaultRoms 9) 9 = "Request Link Status (9)" ∧
  renderLink (Roms.pri defaultRoms 15) 15 = "Primary Function 15 (15)" ∧
  renderLink (Roms.sec defaultRoms 0) 0 = "ACK (0)" ∧ renderLink (Roms.sec defaultRoms 2) 2 = "Unassigned (2)" ∧
  renderLink (Roms.sec defaultRoms 11) 11 = "Status of Link (11)" ∧
  renderApp (Roms.app defaultRoms 0) 0 = "Confirm (0x00)" ∧
  renderApp (Roms.app defaultRoms 14) 14 = "Warm Restart (0x0e)" ∧
  renderApp (Roms.app defaultRoms 33) 33 = "Authentication Error (0x21)" ∧
  renderApp (Roms.app defaultRoms 131) 131 = "Authentication Response (0x83)"

/-! ## The operations -/

/-- START: in IDLE it clears the record and the result and begins a transaction; while one runs it has no effect (R301,
R373). -/
def Obligations.StartBeginsATransactionOnlyInIdle : Prop :=
  ∀ s : State,
    (s.stage = .idle →
      exec .start s = .next { s with stage := .validate, result := .none, record := Record.cleared }) ∧
    (s.stage ≠ .idle → exec .start s = .next s)

/-- VALIDATE: the length test first, then the marker; only STAGE changes when both pass (R130). -/
def Obligations.ValidateTestsLengthThenMarker : Prop :=
  ∀ s : State,
    (10 ≤ s.flen → byteAt s 0 = 0x05 → byteAt s 1 = 0x64 → exec .validate s = .next { s with stage := .link }) ∧
    (s.flen < 10 →
      exec .validate s = .next { s with stage := .idle, result := .frameTooShort, record := Record.cleared }) ∧
    (10 ≤ s.flen → byteAt s 0 ≠ 0x05 ∨ byteAt s 1 ≠ 0x64 →
      exec .validate s = .next { s with stage := .idle, result := .notDnp3, record := Record.cleared })

/-- LINK: the twelve link registers and STAGE receive what R140 says, for every byte value, and nothing else changes
(R61, R140, R304). -/
def Obligations.LinkWritesTheTwelveLinkRegisters : Prop :=
  ∀ s : State, 10 ≤ s.flen →
    exec .link s = .next { s with
      stage := .transport
      record := { s.record with
        dlStart := be16 (byteAt s 0) (byteAt s 1)
        dlLen := byteAt s 2
        dlCtrl := byteAt s 3
        dlDir := bitAt (byteAt s 3) 7
        dlPrm := bitAt (byteAt s 3) 6
        dlFcb := bitAt (byteAt s 3) 5
        dlFcv := bitAt (byteAt s 3) 4
        dlFc := (byteAt s 3).extractLsb' 0 4
        dlLbl := lresolve (bitAt (byteAt s 3) 6) ((byteAt s 3).extractLsb' 0 4)
        dlDst := le16 (byteAt s 4) (byteAt s 5)
        dlSrc := le16 (byteAt s 6) (byteAt s 7)
        dlCrc := le16 (byteAt s 8) (byteAt s 9) } }

/-- TRANSPORT: the four transport registers and STAGE, or FrameTooShort (R160). -/
def Obligations.TransportWritesItsRegistersOrRaises : Prop :=
  ∀ s : State,
    (11 ≤ s.flen →
      exec .transport s = .next { s with
        stage := .app
        record := { s.record with
          trByte := byteAt s 10
          trFin := bitAt (byteAt s 10) 7
          trFir := bitAt (byteAt s 10) 6
          trSeq := (byteAt s 10).extractLsb' 0 6 } }) ∧
    (s.flen < 11 →
      exec .transport s = .next { s with stage := .idle, result := .frameTooShort, record := Record.cleared })

/-- APP: the eight application registers, RESULT = OK and IDLE, whatever the function code; or FrameTooShort (R170). -/
def Obligations.AppWritesItsRegistersOrRaises : Prop :=
  ∀ s : State,
    (13 ≤ s.flen →
      exec .app s = .next { s with
        stage := .idle
        result := .ok
        record := { s.record with
          apCtrl := byteAt s 11
          apFir := bitAt (byteAt s 11) 7
          apFin := bitAt (byteAt s 11) 6
          apCon := bitAt (byteAt s 11) 5
          apUns := bitAt (byteAt s 11) 4
          apSeq := (byteAt s 11).extractLsb' 0 4
          apFc := byteAt s 12
          apLbl := aresolve (byteAt s 12) } }) ∧
    (s.flen < 13 →
      exec .app s = .next { s with stage := .idle, result := .frameTooShort, record := Record.cleared })

/-- raise K clears the record, sets RESULT and rests in IDLE; nothing else changes (R330). -/
def Obligations.RaisingAFailureClearsTheRecord : Prop :=
  ∀ s : State,
    s.raiseFailure .frameTooShort = { s with record := Record.cleared, result := .frameTooShort, stage := .idle } ∧
    s.raiseFailure .notDnp3 = { s with record := Record.cleared, result := .notDnp3, stage := .idle }

/-! ## The code rows -/

/-- LPF_00 to LPF_15: each is selected by its control bytes and writes its ROM_PRI entry to DL_LBL and nothing else; the
unused indices write the placeholder, index 4 the source's name, the others a named entry (R203, R208). -/
def Obligations.PrimaryRowsWriteTheirEntry : Prop :=
  linkRowMeans .lpf00 0x40 (romPri 0) ∧ linkRowMeans .lpf01 0x41 (romPri 1) ∧
  linkRowMeans .lpf02 0x42 (romPri 2) ∧ linkRowMeans .lpf03 0x43 (romPri 3) ∧
  linkRowMeans .lpf04 0x44 ⟨1, "Unconfirmed User Data"⟩ ∧
  linkRowMeans .lpf05 0x45 ⟨0, placeholderText⟩ ∧ linkRowMeans .lpf06 0x46 ⟨0, placeholderText⟩ ∧
  linkRowMeans .lpf07 0x47 ⟨0, placeholderText⟩ ∧ linkRowMeans .lpf08 0x48 ⟨0, placeholderText⟩ ∧
  linkRowMeans .lpf09 0x49 (romPri 9) ∧
  linkRowMeans .lpf10 0x4a ⟨0, placeholderText⟩ ∧ linkRowMeans .lpf11 0x4b ⟨0, placeholderText⟩ ∧
  linkRowMeans .lpf12 0x4c ⟨0, placeholderText⟩ ∧ linkRowMeans .lpf13 0x4d ⟨0, placeholderText⟩ ∧
  linkRowMeans .lpf14 0x4e (romPri 14) ∧ linkRowMeans .lpf15 0x4f (romPri 15) ∧
  ∀ i ∈ ([0, 1, 2, 3, 9, 14, 15] : List (BitVec 4)), (romPri i).assigned = 1

/-- LSF_00 to LSF_15: each is selected by its control bytes and writes its ROM_SEC entry to DL_LBL and nothing else (R204,
R208). -/
def Obligations.SecondaryRowsWriteTheirEntry : Prop :=
  linkRowMeans .lsf00 0x00 (romSec 0) ∧ linkRowMeans .lsf01 0x01 (romSec 1) ∧
  linkRowMeans .lsf02 0x02 (romSec 2) ∧ linkRowMeans .lsf03 0x03 (romSec 3) ∧
  linkRowMeans .lsf04 0x04 (romSec 4) ∧ linkRowMeans .lsf05 0x05 (romSec 5) ∧
  linkRowMeans .lsf06 0x06 (romSec 6) ∧ linkRowMeans .lsf07 0x07 (romSec 7) ∧
  linkRowMeans .lsf08 0x08 (romSec 8) ∧ linkRowMeans .lsf09 0x09 (romSec 9) ∧
  linkRowMeans .lsf10 0x0a (romSec 10) ∧ linkRowMeans .lsf11 0x0b (romSec 11) ∧
  linkRowMeans .lsf12 0x0c (romSec 12) ∧ linkRowMeans .lsf13 0x0d (romSec 13) ∧
  linkRowMeans .lsf14 0x0e (romSec 14) ∧ linkRowMeans .lsf15 0x0f (romSec 15)

/-- AFC_000 to AFC_033: each is selected by its function byte and writes its ROM_APP entry to AP_LBL and nothing else
(R205, R208). -/
def Obligations.RequestRowsWriteTheirEntry : Prop :=
  appRowMeans .afc000 0 (romApp 0) ∧ appRowMeans .afc001 1 (romApp 1) ∧ appRowMeans .afc002 2 (romApp 2) ∧
  appRowMeans .afc003 3 (romApp 3) ∧ appRowMeans .afc004 4 (romApp 4) ∧ appRowMeans .afc005 5 (romApp 5) ∧
  appRowMeans .afc006 6 (romApp 6) ∧ appRowMeans .afc007 7 (romApp 7) ∧ appRowMeans .afc008 8 (romApp 8) ∧
  appRowMeans .afc009 9 (romApp 9) ∧ appRowMeans .afc010 10 (romApp 10) ∧ appRowMeans .afc011 11 (romApp 11) ∧
  appRowMeans .afc012 12 (romApp 12) ∧ appRowMeans .afc013 13 (romApp 13) ∧ appRowMeans .afc014 14 (romApp 14) ∧
  appRowMeans .afc015 15 (romApp 15) ∧ appRowMeans .afc016 16 (romApp 16) ∧ appRowMeans .afc017 17 (romApp 17) ∧
  appRowMeans .afc018 18 (romApp 18) ∧ appRowMeans .afc019 19 (romApp 19) ∧ appRowMeans .afc020 20 (romApp 20) ∧
  appRowMeans .afc021 21 (romApp 21) ∧ appRowMeans .afc022 22 (romApp 22) ∧ appRowMeans .afc023 23 (romApp 23) ∧
  appRowMeans .afc024 24 (romApp 24) ∧ appRowMeans .afc025 25 (romApp 25) ∧ appRowMeans .afc026 26 (romApp 26) ∧
  appRowMeans .afc027 27 (romApp 27) ∧ appRowMeans .afc028 28 (romApp 28) ∧ appRowMeans .afc029 29 (romApp 29) ∧
  appRowMeans .afc030 30 (romApp 30) ∧ appRowMeans .afc031 31 (romApp 31) ∧ appRowMeans .afc032 32 (romApp 32) ∧
  appRowMeans .afc033 33 (romApp 33)

/-- AFC_129 to AFC_131 write their ROM_APP entry; AFC_UNASSIGNED is selected by every byte outside the two ranges and
writes the placeholder; nothing else changes (R205, R208, R279). -/
def Obligations.ResponseAndDefaultRowsWriteTheirEntry : Prop :=
  appRowMeans .afc129 129 (romApp 129) ∧ appRowMeans .afc130 130 (romApp 130) ∧ appRowMeans .afc131 131 (romApp 131) ∧
  ∀ c : Byte, 33 < c.toNat ∧ c.toNat < 129 ∨ 131 < c.toNat →
    appRowMeans (.afcUnassigned c) c ⟨0, placeholderText⟩

/-- The row a frame selects writes exactly the label LINK or APP writes: whatever label stood there, the row restores the
state the operation left (R208, R281). -/
def Obligations.TheSelectedRowWritesTheLabelOfItsOperation : Prop :=
  (∀ (s t : State) (row : Instr) (e : LabelEntry),
    decode .linkCtrl [byteAt s 3] = .ok row → exec .link s = .next t →
    exec row { t with record := { t.record with dlLbl := e } } = .next t) ∧
  ∀ (s t : State) (row : Instr) (e : LabelEntry),
    13 ≤ s.flen → decode .appFc [byteAt s 12] = .ok row → exec .app s = .next t →
    exec row { t with record := { t.record with apLbl := e } } = .next t

/-! ## Frames over all instructions -/

/-- No instruction writes the buffer, FLEN or HOST's moves: every byte reads as before (R63). -/
def Obligations.InstructionsNeverWriteTheBuffer : Prop :=
  ∀ (i : Instr) (s t : State), exec i s = .next t →
    (∀ a, byteAt t a = byteAt s a) ∧ t.fb = s.fb ∧ t.flen = s.flen ∧ t.host = s.host

/-- Each stage operation writes its own record registers and no others; a failing one leaves none (R22, R25). -/
def Obligations.EachStageWritesOnlyItsOwnRegisters : Prop :=
  ∀ s t : State,
    (exec .validate s = .next t → t.stage = .link → t.record = s.record ∧ t.result = s.result) ∧
    (exec .link s = .next t →
      ∃ st len c dst src crc, t.record = s.record.withLink st len c dst src crc ∧ t.result = s.result) ∧
    (exec .transport s = .next t → t.stage = .app →
      ∃ b, t.record = s.record.withTransport b ∧ t.result = s.result) ∧
    (exec .app s = .next t → t.result = .ok → ∃ a f, t.record = s.record.withApp a f)

/-- A stage operation that raises a failure leaves a cleared record in IDLE (R330). -/
def Obligations.FailedOperationsLeaveNoRecord : Prop :=
  ∀ (i : Instr) (s t : State), i = .validate ∨ i = .transport ∨ i = .app →
    exec i s = .next t → t.result = .frameTooShort ∨ t.result = .notDnp3 → t.stage = .idle →
    t.record = Record.cleared

/-! ## One step -/

/-- With HOST silent or making a quiet move, a step runs the operation the STAGE code decodes to, and then the code row
its byte decodes to (R302; log 2). In IDLE the machine rests (log 4). -/
def Obligations.StepRunsTheDecodedOperationAndItsRow : Prop :=
  (∀ (s : State) (i : Instr), s.host = [] → decode .stage [s.stage.code.setWidth 8] = .ok i →
    step s = runAll (i :: fetchRow s) s) ∧
  (∀ (s : State) (i : Instr) (rest : List HostMove), s.host = .quiet :: rest →
    decode .stage [s.stage.code.setWidth 8] = .ok i →
    step s = runAll (i :: fetchRow s) { s with host := rest }) ∧
  ∀ s : State, s.host = [] → s.stage = .idle → step s = .next s

/-- A write to CMD runs the command it decodes to; with bit 0 clear it has no effect, in any state (R33, R301). -/
def Obligations.CommandWritesRunStartOrNothing : Prop :=
  ∀ (s : State) (w : Byte) (rest : List HostMove), s.host = .writeCmd w :: rest →
    (w &&& 0x01 = 0x01 → step s = exec .start { s with host := rest }) ∧
    (w &&& 0x01 = 0x00 → step s = .next { s with host := rest })

/-- A step of PARSER is exactly the stage operation STAGE names: the code row run with it adds nothing (R302 to R306;
log 2). -/
def Obligations.StepIsExactlyTheStageOperation : Prop :=
  ∀ (s : State) (i : Instr), s.host = [] → decode .stage [s.stage.code.setWidth 8] = .ok i → step s = exec i s

/-- STAGE moves only forward or to IDLE, except by reset; only an accepted START leaves IDLE (R31, R309, R360). -/
def Obligations.StageMovesOnlyForward : Prop :=
  ∀ s t : State, step s = .next t → s.host.head? ≠ some .reset →
    (t.stage = s.stage ∨ stageMoves s.stage t.stage) ∧
    (s.host = [] → stageMoves s.stage t.stage) ∧
    (s.stage = .idle → t.stage ≠ .idle →
      t.stage = .validate ∧ ∃ w rest, s.host = .writeCmd w :: rest ∧ w &&& 0x01 = 0x01)

/-- RESULT becomes OK only by APP on a buffer of at least 13 bytes (R36, R170, R306). -/
def Obligations.OnlyAppMakesAResultOk : Prop :=
  ∀ s t : State, step s = .next t → s.result ≠ .ok → t.result = .ok → s.stage = .app ∧ 13 ≤ s.flen

/-- At rest nothing but an accepted START or reset changes the record or RESULT (R25, R311). -/
def Obligations.TheRecordStaysUntilStartOrReset : Prop :=
  ∀ s t : State, s.stage = .idle → step s = .next t → s.host.head? ≠ some .reset →
    (∀ w rest, s.host = .writeCmd w :: rest → w &&& 0x01 = 0x00) →
    t.record = s.record ∧ t.result = s.result ∧ t.stage = .idle

/-! ## HOST's moves -/

/-- Reset in any state, also during a transaction: STAGE, RESULT and REC go to their reset values, FLEN and the buffer stay
(R360). -/
def Obligations.ResetClearsAllButTheBuffer : Prop :=
  ∀ (s : State) (rest : List HostMove), s.host = .reset :: rest →
    step s = .next { s with host := rest, stage := .idle, result := .none, record := Record.cleared }

/-- The state after reset: the values R41 states, and FLEN = 0, the model's choice (log 6). -/
def Obligations.ResetStateHoldsTheResetValues : Prop :=
  State.reset.stage = .idle ∧ State.reset.result = .none ∧ State.reset.record = Record.cleared ∧
  State.reset.status = 0x00 ∧ State.reset.flen = 0 ∧ (∀ n : Fin 24, n.val ≠ 8 → n.val ≠ 23 →
    Record.reg State.reset.record n = .number 0) ∧
  Record.reg State.reset.record 8 = .label ⟨0, ""⟩ ∧ Record.reg State.reset.record 23 = .label ⟨0, ""⟩

/-- HOST's write of a byte, in IDLE or beyond the offsets PARSER reads: the byte reads back, every other byte and every
register stays (R38, R370). That the write is taken at every offset, also at or beyond FB_MAX, is the model's choice
(log 19). The write during a transaction of the value that stands at an offset from 0 to 12 is
RewritingTheSameValueDuringATransactionIsTaken (log 10). -/
def Obligations.HostByteWriteChangesOneByte : Prop :=
  ∀ (s : State) (a : Nat) (b : Byte) (rest : List HostMove), s.host = .writeByte a b :: rest →
    s.stage = .idle ∨ 13 ≤ a →
    ∃ t, step s = .next t ∧ byteAt t a = b ∧ (∀ a', a' ≠ a → byteAt t a' = byteAt s a') ∧
      t.record = s.record ∧ t.stage = s.stage ∧ t.result = s.result ∧ t.flen = s.flen ∧ t.host = rest

/-- In IDLE HOST may set FLEN to any length up to FB_MAX; beyond it the model refuses (R34, R371; log 9). -/
def Obligations.HostLengthWriteIsBoundedByFbMax : Prop :=
  ∀ (s : State) (n : Nat) (rest : List HostMove), s.host = .writeLen n :: rest → s.stage = .idle →
    (n ≤ Config.fbMax → step s = .next { s with flen := n, host := rest }) ∧
    (Config.fbMax < n → step s = .refused .lengthBeyondMax)

/-- Changing FLEN or a byte at offsets 0 to 12 while a transaction runs is refused, the first of the two treatments R370
gives a model (log 10). -/
def Obligations.ChangingTheBufferDuringATransactionIsRefused : Prop :=
  ∀ (s : State) (rest : List HostMove), s.stage ≠ .idle →
    (∀ (a : Nat) (b : Byte), s.host = .writeByte a b :: rest → a < 13 → s.fb.read? a ≠ some b →
      step s = .refused .bufferChangedDuringTransaction) ∧
    (∀ n : Nat, s.host = .writeLen n :: rest → n ≠ s.flen → step s = .refused .bufferChangedDuringTransaction)

/-- STATUS and its views (R35). -/
def Obligations.StatusShowsStageAndResult : Prop :=
  ∀ s : State,
    s.status.extractLsb' 0 3 = s.stage.code ∧ s.status.extractLsb' 3 2 = s.result.code ∧
    s.status.extractLsb' 5 3 = 0 ∧
    (s.busy = true ↔ s.stage ≠ .idle) ∧ (s.done = true ↔ s.stage = .idle ∧ s.result ≠ .none) ∧
    (s.recValid = true ↔ s.result = .ok)

/-- HOST gets a frame exactly from IDLE with RESULT = OK, and in IDLE a read gives the register (R311, R372). -/
def Obligations.AFrameIsReadOnlyAfterSuccess : Prop :=
  ∀ s : State,
    (∀ r, readFrame s = some r ↔ s.stage = .idle ∧ s.result = .ok ∧ r = s.record) ∧
    ∀ (k : Nat) (n : Fin 24), s.stage = .idle → readRec k s n = Record.reg s.record n

/-! ## Invariant -/

/-- The invariant holds at reset (R41; FLEN = 0 is log 6's choice). -/
def Obligations.InvariantHoldsAtReset : Prop := Inv State.reset

/-- Every step keeps the invariant: R26 at rest, the stage's length test passed, the later registers clear, FLEN at most
FB_MAX, the buffer memory canonical (R26, R34, R66). -/
def Obligations.EveryStepKeepsTheInvariant : Prop :=
  ∀ s t : State, Inv s → step s = .next t → Inv t

/-- From a state with the invariant no step reads outside the buffer, and nothing else faults (R66, R325). -/
def Obligations.NoStepFaultsUnderTheInvariant : Prop :=
  ∀ (s : State) (r : Fault), Inv s → step s ≠ .fault r

/-- From a state with the invariant and HOST silent, PARSER is back in IDLE within four steps (R310). -/
def Obligations.EveryTransactionEndsWithinFourSteps : Prop :=
  ∀ s : State, Inv s → s.host = [] → ∃ k t, k ≤ 4 ∧ runSteps k s = .next t ∧ t.stage = .idle

/-! ## Whole transactions -/

/-- From any state in IDLE, START and four steps reach IDLE with the register image of DECODE of the buffer, and change
nothing else (R307, R308). -/
def Obligations.StartAndFourStepsDecodeTheBuffer : Prop :=
  ∀ (s : State) (w : Byte) (rest : List HostMove), s.stage = .idle → w &&& 0x01 = 0x01 →
    s.host = startAndWait w rest →
    runSteps 5 s = .next { s with
      host := rest
      result := (decodeFrame (byteAt s) s.flen).result
      record := (decodeFrame (byteAt s) s.flen).record }

/-- How many steps a transaction takes after START: one when VALIDATE fails, three when TRANSPORT fails, four otherwise
(R308). -/
def Obligations.StepsATransactionTakes : Prop :=
  ∀ s : State, s.stage = .idle → s.host = [.writeCmd 0x01] →
    (s.flen < 10 ∨ byteAt s 0 ≠ 0x05 ∨ byteAt s 1 ≠ 0x64 → ∃ t, runSteps 2 s = .next t ∧ t.stage = .idle) ∧
    (s.flen = 10 → byteAt s 0 = 0x05 → byteAt s 1 = 0x64 →
      (∃ t, runSteps 3 s = .next t ∧ t.stage = .transport) ∧ ∃ t, runSteps 4 s = .next t ∧ t.stage = .idle) ∧
    (11 ≤ s.flen → byteAt s 0 = 0x05 → byteAt s 1 = 0x64 →
      (∃ t, runSteps 4 s = .next t ∧ t.stage = .app) ∧ ∃ t, runSteps 5 s = .next t ∧ t.stage = .idle)

/-- A buffer under 10 bytes ends in FrameTooShort and one with a wrong marker in NotDNP3, and in both cases every record
register holds its reset value (R132). -/
def Obligations.ShortAndForeignBuffersWriteNoFields : Prop :=
  ∀ (s : State) (w : Byte) (rest : List HostMove), s.stage = .idle → w &&& 0x01 = 0x01 →
    s.host = startAndWait w rest →
    (s.flen < 10 →
      runSteps 5 s = .next { s with host := rest, result := .frameTooShort, record := Record.cleared }) ∧
    (10 ≤ s.flen → byteAt s 0 ≠ 0x05 ∨ byteAt s 1 ≠ 0x64 →
      runSteps 5 s = .next { s with host := rest, result := .notDnp3, record := Record.cleared })

/-- Exactly when a transaction ends with each result (R321, R322, R327). -/
def Obligations.ExactlyWhenEachResultEndsATransaction : Prop :=
  ∀ (s : State) (w : Byte) (rest : List HostMove), s.stage = .idle → w &&& 0x01 = 0x01 →
    s.host = startAndWait w rest →
    ∃ t, runSteps 5 s = .next t ∧
      (t.result = .frameTooShort ↔
        s.flen < 10 ∨ (s.flen < 13 ∧ byteAt s 0 = 0x05 ∧ byteAt s 1 = 0x64)) ∧
      (t.result = .notDnp3 ↔ 10 ≤ s.flen ∧ (byteAt s 0 ≠ 0x05 ∨ byteAt s 1 ≠ 0x64)) ∧
      (t.result = .ok ↔ 13 ≤ s.flen ∧ byteAt s 0 = 0x05 ∧ byteAt s 1 = 0x64)

/-- Two transactions with equal FLEN and equal bytes below min(FLEN, 13) end with equal RESULT and equal REC, whatever
else the two states hold (R69, R75). -/
def Obligations.EqualBuffersEndWithEqualResults : Prop :=
  ∀ (s t : State) (w w' : Byte) (rest rest' : List HostMove),
    s.stage = .idle → t.stage = .idle → w &&& 0x01 = 0x01 → w' &&& 0x01 = 0x01 →
    s.host = startAndWait w rest → t.host = startAndWait w' rest' → s.flen = t.flen →
    (∀ a, a < min s.flen 13 → byteAt s a = byteAt t a) →
    ∃ u v, runSteps 5 s = .next u ∧ runSteps 5 t = .next v ∧ u.result = v.result ∧ u.record = v.record

/-- The length byte and the crc bytes are stored and decide nothing: two transactions whose buffers differ there only end
with equal RESULT and with records equal but for DL_LEN and DL_CRC (R142, R146). -/
def Obligations.LengthAndCrcDecideNothing : Prop :=
  ∀ (s t : State) (w : Byte) (rest : List HostMove),
    s.stage = .idle → t.stage = .idle → w &&& 0x01 = 0x01 →
    s.host = startAndWait w rest → t.host = startAndWait w rest → s.flen = t.flen →
    (∀ a, a ≠ 2 → a ≠ 8 → a ≠ 9 → byteAt s a = byteAt t a) →
    ∃ u v, runSteps 5 s = .next u ∧ runSteps 5 t = .next v ∧ u.result = v.result ∧
      { u.record with dlLen := 0, dlCrc := 0 } = { v.record with dlLen := 0, dlCrc := 0 }

/-- HOST's whole use of the block: write a frame and FLEN, START, wait four steps. Whatever the state in IDLE held before,
the end is DECODE of that frame; buffer bytes beyond it keep what they held (R307, R364, R365). -/
def Obligations.WritingAFrameAndStartingDecodesIt : Prop :=
  ∀ (s : State) (frame : List Byte) (rest : List HostMove), s.stage = .idle → frame.length ≤ Config.fbMax →
    s.host = transactionScript frame ++ rest →
    ∃ t, runSteps (frame.length + 6) s = .next t ∧ t.stage = .idle ∧ t.host = rest ∧ t.flen = frame.length ∧
      (∀ a, byteAt t a = frameBytes frame (byteAt s) a) ∧
      t.result = (decodeFrame (frameBytes frame (byteAt s)) frame.length).result ∧
      t.record = (decodeFrame (frameBytes frame (byteAt s)) frame.length).record

/-! ## Several instances -/

/-- A step of one instance leaves every other as it is, and steps of two instances can be taken in either order (R73,
R328, R341). -/
def Obligations.InstancesDoNotInteract : Prop :=
  (∀ (m a : Instances) (k j : Nat), stepInstance k m = .next a → j ≠ k → a[j]? = m[j]?) ∧
  ∀ (m a b : Instances) (j k : Nat), j ≠ k → stepInstance j m = .next a → stepInstance k m = .next b →
    ∃ c, stepInstance k a = .next c ∧ stepInstance j b = .next c

/-! ## Selection by the codes the build's table names -/

/-- In every build, whatever codes its table names, decoding the encoder's words gives back every instruction that is
well-formed there: AFC_nnn where its code is named, AFC_UNASSIGNED with every other code (R105, R279). -/
def Obligations.DecodeOfEncodeInEveryBuild : Prop :=
  ∀ (named : Byte → Bool) (i : Instr), i.wellFormedIn named = true → decodeIn named i.space (encode i) = .ok i

/-- In every build an application code selects AFC_UNASSIGNED exactly when it is outside the two ranges or not named, and
else the one row whose word it is; the other code spaces do not depend on the names (R105, R106, R279). -/
def Obligations.ACodeSelectsANamedRowExactlyWhenItIsNamed : Prop :=
  (∀ (named : Byte → Bool) (f : Byte), ∃ i,
    decodeIn named .appFc [f] = .ok i ∧ i.space = .appFc ∧ encode i = [f] ∧ i.wellFormedIn named = true ∧
    (i = .afcUnassigned f ↔ ¬ (inAppRange f = true ∧ named f = true))) ∧
  ∀ (named : Byte → Bool) (space : Space) (bytes : List Byte), space ≠ .appFc →
    decodeIn named space bytes = decode space bytes

/-- A step is the stage operation followed by the row that the build selects, AFC_UNASSIGNED for a code its table does not
name: the model runs the row of the opcode table alone, and that is the same (R105, R279, R281, R302; log 2, 15). -/
def Obligations.StepRunsTheRowTheBuildSelects : Prop :=
  (∀ (s : State) (i : Instr), s.host = [] → decode .stage [s.stage.code.setWidth 8] = .ok i →
    step s = runAll (i :: selectedRow s) s) ∧
  ∀ (s : State) (i : Instr) (rest : List HostMove), s.host = .quiet :: rest →
    decode .stage [s.stage.code.setWidth 8] = .ok i →
    step s = runAll (i :: selectedRow s) { s with host := rest }

/-- A code the build's table does not name: it selects AFC_UNASSIGNED, which writes the placeholder to AP_LBL and nothing
else, and APP on it still ends OK with AP_FC the code and AP_LBL the placeholder (R172, R279, R324). -/
def Obligations.UnnamedCodesGetThePlaceholderAndSucceed : Prop :=
  ∀ (f : Byte) (s : State), romNamed f = false →
    decodeIn romNamed .appFc [f] = .ok (.afcUnassigned f) ∧
    exec (.afcUnassigned f) s = .next { s with record := { s.record with apLbl := ⟨0, placeholderText⟩ } } ∧
    (13 ≤ s.flen → byteAt s 12 = f →
      ∃ t, exec .app s = .next t ∧ t.result = .ok ∧ t.record.apFc = f ∧ t.record.apLbl = ⟨0, placeholderText⟩)

/-- HOST writes what already stands there, in any stage: a byte at an offset it has written, or FLEN within FB_MAX. The
move is taken, every byte reads as before and every register stays. R370 forbids a change; that a write of the same
value is none is the model's reading (log 10). -/
def Obligations.RewritingTheSameValueDuringATransactionIsTaken : Prop :=
  (∀ (s : State) (a : Nat) (b : Byte) (rest : List HostMove), s.host = .writeByte a b :: rest →
    s.fb.read? a = some b →
    ∃ t, step s = .next t ∧ (∀ a', byteAt t a' = byteAt s a') ∧ t.record = s.record ∧ t.stage = s.stage ∧
      t.result = s.result ∧ t.flen = s.flen ∧ t.host = rest) ∧
  ∀ (s : State) (rest : List HostMove), s.host = .writeLen s.flen :: rest → s.flen ≤ Config.fbMax →
    step s = .next { s with host := rest }
end

