-- ==== Sys2Proof/Laws/Resolver.lean ====
section
/-! SUPPORT. The resolver's lookups: what an entry can be. -/

namespace Sys2Proof.Machine

theorem legalName_ne_empty (t : String) : legalName t ≠ "" := by
  unfold legalName
  split
  · decide
  · rename_i h; exact fun hc => h (.inl hc)

theorem legalName_ne_placeholder (t : String) : legalName t ≠ placeholderText := by
  unfold legalName
  split
  · decide
  · rename_i h; exact fun hc => h (.inr hc)

/-- A parameter that is a table name already is the name. -/
theorem legalName_of_legal {t : String} (h : t ≠ "") (h' : t ≠ placeholderText) : legalName t = t :=
  if_neg (not_or.2 ⟨h, h'⟩)

@[simp] theorem namedEntry_assigned (t : String) : (namedEntry t).assigned = 1 := rfl
@[simp] theorem namedEntry_name (t : String) : (namedEntry t).name = legalName t := rfl
@[simp] theorem placeholder_assigned : LabelEntry.placeholder.assigned = 0 := rfl
@[simp] theorem placeholder_name : LabelEntry.placeholder.name = placeholderText := rfl

/-- Every link lookup gives a named entry or the placeholder. -/
theorem lresolve_cases (prm : Bit) (fc : BitVec 4) :
    (∃ t, lresolve prm fc = ⟨1, t⟩ ∧ t ≠ "" ∧ t ≠ placeholderText) ∨ lresolve prm fc = LabelEntry.placeholder := by
  have named : ∀ raw, ∃ t, namedEntry raw = ⟨1, t⟩ ∧ t ≠ "" ∧ t ≠ placeholderText :=
    fun raw => ⟨_, rfl, legalName_ne_empty raw, legalName_ne_placeholder raw⟩
  unfold lresolve romPri romSec Roms.pri Roms.sec
  split
  · split
    · exact .inl ⟨_, rfl, by decide, by decide⟩
    · split
      · exact .inl (named _)
      · exact .inr rfl
  · split
    · exact .inl (named _)
    · exact .inr rfl

/-- Every application lookup gives a named entry, for a code in the two ranges, or the placeholder. -/
theorem aresolve_cases (f : Byte) :
    (inAppRange f = true ∧ ∃ t, aresolve f = ⟨1, t⟩ ∧ t ≠ "" ∧ t ≠ placeholderText) ∨
      aresolve f = LabelEntry.placeholder := by
  unfold aresolve romApp Roms.app
  split
  · rename_i h
    simp only [Roms.named, Bool.and_eq_true] at h
    exact .inl ⟨h.1, _, rfl, legalName_ne_empty _, legalName_ne_placeholder _⟩
  · exact .inr rfl

/-- A code the build's table does not name gives the placeholder. -/
theorem aresolve_of_unnamed {f : Byte} (h : romNamed f = false) : aresolve f = LabelEntry.placeholder :=
  if_neg (ne_true_of_eq_false h)

/-- A table names codes of the two ranges only (R205). -/
theorem inAppRange_of_romNamed {f : Byte} (h : romNamed f = true) : inAppRange f = true :=
  (Bool.and_eq_true_iff.1 h).1

end Sys2Proof.Machine
end

