-- ==== Sys2Proof/Laws/AppRows.lean ====
section
/-! SUPPORT. The application row a code selects, for every set of named codes, and what it writes: where the build's table
does not name a code, its AFC_nnn row and AFC_UNASSIGNED write the same label. -/

namespace Sys2Proof.Machine

/-- Exactly the codes of the two ranges have a named row. -/
theorem findRow_isSome : ∀ f : Byte, (findRow appRows f).isSome = inAppRange f := by decide

/-- The named row of a code has the code as its word and is not AFC_UNASSIGNED. -/
theorem namedRow_word {f : Byte} {i : Instr} (h : findRow appRows f = some i) :
    i.space = .appFc ∧ encode i = [f] ∧ i ≠ .afcUnassigned f := by
  have rows : ∀ f : Byte, (findRow appRows f).all
      (fun i => decide (i.space = .appFc ∧ encode i = [f] ∧ i ≠ .afcUnassigned f)) = true := by decide
  have hf := rows f
  rw [h] at hf
  simpa using hf

/-- What the application decoder can answer: the named row of a code that is named, else AFC_UNASSIGNED. -/
theorem decodeAppFc_cases (named : Byte → Bool) (f : Byte) :
    ((inAppRange f && named f) = true ∧
        ∃ i, findRow appRows f = some i ∧ decodeIn named .appFc [f] = .ok i) ∨
      ((inAppRange f && named f) = false ∧ decodeIn named .appFc [f] = .ok (.afcUnassigned f)) := by
  have hf := findRow_isSome f
  show (_ ∧ ∃ i, _ ∧ decodeAppFc named f = _) ∨ (_ ∧ decodeAppFc named f = _)
  unfold decodeAppFc
  cases hr : findRow appRows f with
  | none => rw [hr] at hf; right; simp [← hf]
  | some i =>
    rw [hr] at hf
    cases hn : named f with
    | true => left; exact ⟨by simp [← hf], i, rfl, by simp⟩
    | false => right; simp

/-- A row whose word is the code `f` and that is not AFC_UNASSIGNED writes what ARESOLVE gives for `f`. -/
theorem exec_of_encode {i : Instr} {f : Byte} (hs : i.space = .appFc) (he : encode i = [f])
    (hu : i ≠ .afcUnassigned f) (s : State) : exec i s = .next (s.setApLbl (aresolve f)) := by
  cases i
  case afcUnassigned c =>
    obtain rfl : c = f := by simpa [encode] using he
    exact absurd rfl hu
  all_goals first
    | (obtain rfl := List.head_eq_of_cons_eq he; rfl)
    | (simp [Instr.space] at hs)

/-- Whatever set of codes selects the row, as long as it has the codes the build's table names, the row writes what
ARESOLVE gives for the code. -/
theorem exec_selected {named : Byte → Bool} {f : Byte} {row : Instr} (hn : romNamed f = true → named f = true)
    (h : decodeIn named .appFc [f] = .ok row) (s : State) : exec row s = .next (s.setApLbl (aresolve f)) := by
  rcases decodeAppFc_cases named f with ⟨_, i, hi, hd⟩ | ⟨hno, hd⟩
  · obtain rfl : i = row := by simpa using hd.symm.trans h
    obtain ⟨hs, he, hu⟩ := namedRow_word hi
    exact exec_of_encode hs he hu s
  · obtain rfl : Instr.afcUnassigned f = row := by simpa using hd.symm.trans h
    have hu : romNamed f = false := by
      cases hr : romNamed f with
      | false => rfl
      | true =>
        rw [inAppRange_of_romNamed hr, hn hr] at hno; cases hno
    rw [aresolve_of_unnamed hu]
    rfl

/-- The row of the opcode table alone and the row the build selects do the same to every state (R105 c, R279, R281). -/
theorem exec_tableRow_eq_selectedRow {f : Byte} {row row' : Instr} (h : decode .appFc [f] = .ok row)
    (h' : decodeIn romNamed .appFc [f] = .ok row') (s : State) : exec row s = exec row' s := by
  rw [exec_selected inAppRange_of_romNamed h s, exec_selected id h' s]

end Sys2Proof.Machine
end

