-- ==== Sys2Proof/Laws/State.lean ====
section
/-! SUPPORT. One lemma per field per update of State and Record, true by rfl. -/

namespace Sys2Proof.Machine

/-! ### setStage -/

@[simp] theorem State.setStage_record (s : State) (v : Stage) : (s.setStage v).record = s.record := rfl
@[simp] theorem State.setStage_stage (s : State) (v : Stage) : (s.setStage v).stage = v := rfl
@[simp] theorem State.setStage_result (s : State) (v : Stage) : (s.setStage v).result = s.result := rfl
@[simp] theorem State.setStage_flen (s : State) (v : Stage) : (s.setStage v).flen = s.flen := rfl
@[simp] theorem State.setStage_fb (s : State) (v : Stage) : (s.setStage v).fb = s.fb := rfl
@[simp] theorem State.setStage_host (s : State) (v : Stage) : (s.setStage v).host = s.host := rfl

/-! ### setResult -/

@[simp] theorem State.setResult_record (s : State) (v : Result) : (s.setResult v).record = s.record := rfl
@[simp] theorem State.setResult_stage (s : State) (v : Result) : (s.setResult v).stage = s.stage := rfl
@[simp] theorem State.setResult_result (s : State) (v : Result) : (s.setResult v).result = v := rfl
@[simp] theorem State.setResult_flen (s : State) (v : Result) : (s.setResult v).flen = s.flen := rfl
@[simp] theorem State.setResult_fb (s : State) (v : Result) : (s.setResult v).fb = s.fb := rfl
@[simp] theorem State.setResult_host (s : State) (v : Result) : (s.setResult v).host = s.host := rfl

/-! ### setRecord -/

@[simp] theorem State.setRecord_record (s : State) (r : Record) : (s.setRecord r).record = r := rfl
@[simp] theorem State.setRecord_stage (s : State) (r : Record) : (s.setRecord r).stage = s.stage := rfl
@[simp] theorem State.setRecord_result (s : State) (r : Record) : (s.setRecord r).result = s.result := rfl
@[simp] theorem State.setRecord_flen (s : State) (r : Record) : (s.setRecord r).flen = s.flen := rfl
@[simp] theorem State.setRecord_fb (s : State) (r : Record) : (s.setRecord r).fb = s.fb := rfl
@[simp] theorem State.setRecord_host (s : State) (r : Record) : (s.setRecord r).host = s.host := rfl

/-! ### clearRecord -/

@[simp] theorem State.clearRecord_record (s : State) : (s.clearRecord).record = Record.cleared := rfl
@[simp] theorem State.clearRecord_stage (s : State) : (s.clearRecord).stage = s.stage := rfl
@[simp] theorem State.clearRecord_result (s : State) : (s.clearRecord).result = s.result := rfl
@[simp] theorem State.clearRecord_flen (s : State) : (s.clearRecord).flen = s.flen := rfl
@[simp] theorem State.clearRecord_fb (s : State) : (s.clearRecord).fb = s.fb := rfl
@[simp] theorem State.clearRecord_host (s : State) : (s.clearRecord).host = s.host := rfl

/-! ### setDlLbl -/

@[simp] theorem State.setDlLbl_record (s : State) (e : LabelEntry) : (s.setDlLbl e).record = { s.record with dlLbl := e } := rfl
@[simp] theorem State.setDlLbl_stage (s : State) (e : LabelEntry) : (s.setDlLbl e).stage = s.stage := rfl
@[simp] theorem State.setDlLbl_result (s : State) (e : LabelEntry) : (s.setDlLbl e).result = s.result := rfl
@[simp] theorem State.setDlLbl_flen (s : State) (e : LabelEntry) : (s.setDlLbl e).flen = s.flen := rfl
@[simp] theorem State.setDlLbl_fb (s : State) (e : LabelEntry) : (s.setDlLbl e).fb = s.fb := rfl
@[simp] theorem State.setDlLbl_host (s : State) (e : LabelEntry) : (s.setDlLbl e).host = s.host := rfl

/-! ### setApLbl -/

@[simp] theorem State.setApLbl_record (s : State) (e : LabelEntry) : (s.setApLbl e).record = { s.record with apLbl := e } := rfl
@[simp] theorem State.setApLbl_stage (s : State) (e : LabelEntry) : (s.setApLbl e).stage = s.stage := rfl
@[simp] theorem State.setApLbl_result (s : State) (e : LabelEntry) : (s.setApLbl e).result = s.result := rfl
@[simp] theorem State.setApLbl_flen (s : State) (e : LabelEntry) : (s.setApLbl e).flen = s.flen := rfl
@[simp] theorem State.setApLbl_fb (s : State) (e : LabelEntry) : (s.setApLbl e).fb = s.fb := rfl
@[simp] theorem State.setApLbl_host (s : State) (e : LabelEntry) : (s.setApLbl e).host = s.host := rfl

/-! ### raiseFailure -/

@[simp] theorem State.raiseFailure_record (s : State) (k : Failure) : (s.raiseFailure k).record = Record.cleared := rfl
@[simp] theorem State.raiseFailure_stage (s : State) (k : Failure) : (s.raiseFailure k).stage = .idle := rfl
@[simp] theorem State.raiseFailure_result (s : State) (k : Failure) : (s.raiseFailure k).result = k.result := rfl
@[simp] theorem State.raiseFailure_flen (s : State) (k : Failure) : (s.raiseFailure k).flen = s.flen := rfl
@[simp] theorem State.raiseFailure_fb (s : State) (k : Failure) : (s.raiseFailure k).fb = s.fb := rfl
@[simp] theorem State.raiseFailure_host (s : State) (k : Failure) : (s.raiseFailure k).host = s.host := rfl

/-! ### withLink -/

@[simp] theorem Record.withLink_dlStart (r : Record) (st : Half) (n c : Byte) (dst src crc : Half) :
    (r.withLink st n c dst src crc).dlStart = st := rfl
@[simp] theorem Record.withLink_dlLen (r : Record) (st : Half) (n c : Byte) (dst src crc : Half) :
    (r.withLink st n c dst src crc).dlLen = n := rfl
@[simp] theorem Record.withLink_dlCtrl (r : Record) (st : Half) (n c : Byte) (dst src crc : Half) :
    (r.withLink st n c dst src crc).dlCtrl = c := rfl
@[simp] theorem Record.withLink_dlDir (r : Record) (st : Half) (n c : Byte) (dst src crc : Half) :
    (r.withLink st n c dst src crc).dlDir = dirOf c := rfl
@[simp] theorem Record.withLink_dlPrm (r : Record) (st : Half) (n c : Byte) (dst src crc : Half) :
    (r.withLink st n c dst src crc).dlPrm = prmOf c := rfl
@[simp] theorem Record.withLink_dlFcb (r : Record) (st : Half) (n c : Byte) (dst src crc : Half) :
    (r.withLink st n c dst src crc).dlFcb = fcbOf c := rfl
@[simp] theorem Record.withLink_dlFcv (r : Record) (st : Half) (n c : Byte) (dst src crc : Half) :
    (r.withLink st n c dst src crc).dlFcv = fcvOf c := rfl
@[simp] theorem Record.withLink_dlFc (r : Record) (st : Half) (n c : Byte) (dst src crc : Half) :
    (r.withLink st n c dst src crc).dlFc = fcOf c := rfl
@[simp] theorem Record.withLink_dlLbl (r : Record) (st : Half) (n c : Byte) (dst src crc : Half) :
    (r.withLink st n c dst src crc).dlLbl = lresolve (prmOf c) (fcOf c) := rfl
@[simp] theorem Record.withLink_dlDst (r : Record) (st : Half) (n c : Byte) (dst src crc : Half) :
    (r.withLink st n c dst src crc).dlDst = dst := rfl
@[simp] theorem Record.withLink_dlSrc (r : Record) (st : Half) (n c : Byte) (dst src crc : Half) :
    (r.withLink st n c dst src crc).dlSrc = src := rfl
@[simp] theorem Record.withLink_dlCrc (r : Record) (st : Half) (n c : Byte) (dst src crc : Half) :
    (r.withLink st n c dst src crc).dlCrc = crc := rfl
@[simp] theorem Record.withLink_trByte (r : Record) (st : Half) (n c : Byte) (dst src crc : Half) :
    (r.withLink st n c dst src crc).trByte = r.trByte := rfl
@[simp] theorem Record.withLink_trFin (r : Record) (st : Half) (n c : Byte) (dst src crc : Half) :
    (r.withLink st n c dst src crc).trFin = r.trFin := rfl
@[simp] theorem Record.withLink_trFir (r : Record) (st : Half) (n c : Byte) (dst src crc : Half) :
    (r.withLink st n c dst src crc).trFir = r.trFir := rfl
@[simp] theorem Record.withLink_trSeq (r : Record) (st : Half) (n c : Byte) (dst src crc : Half) :
    (r.withLink st n c dst src crc).trSeq = r.trSeq := rfl
@[simp] theorem Record.withLink_apCtrl (r : Record) (st : Half) (n c : Byte) (dst src crc : Half) :
    (r.withLink st n c dst src crc).apCtrl = r.apCtrl := rfl
@[simp] theorem Record.withLink_apFir (r : Record) (st : Half) (n c : Byte) (dst src crc : Half) :
    (r.withLink st n c dst src crc).apFir = r.apFir := rfl
@[simp] theorem Record.withLink_apFin (r : Record) (st : Half) (n c : Byte) (dst src crc : Half) :
    (r.withLink st n c dst src crc).apFin = r.apFin := rfl
@[simp] theorem Record.withLink_apCon (r : Record) (st : Half) (n c : Byte) (dst src crc : Half) :
    (r.withLink st n c dst src crc).apCon = r.apCon := rfl
@[simp] theorem Record.withLink_apUns (r : Record) (st : Half) (n c : Byte) (dst src crc : Half) :
    (r.withLink st n c dst src crc).apUns = r.apUns := rfl
@[simp] theorem Record.withLink_apSeq (r : Record) (st : Half) (n c : Byte) (dst src crc : Half) :
    (r.withLink st n c dst src crc).apSeq = r.apSeq := rfl
@[simp] theorem Record.withLink_apFc (r : Record) (st : Half) (n c : Byte) (dst src crc : Half) :
    (r.withLink st n c dst src crc).apFc = r.apFc := rfl
@[simp] theorem Record.withLink_apLbl (r : Record) (st : Half) (n c : Byte) (dst src crc : Half) :
    (r.withLink st n c dst src crc).apLbl = r.apLbl := rfl

/-! ### withTransport -/

@[simp] theorem Record.withTransport_dlStart (r : Record) (t : Byte) :
    (r.withTransport t).dlStart = r.dlStart := rfl
@[simp] theorem Record.withTransport_dlLen (r : Record) (t : Byte) :
    (r.withTransport t).dlLen = r.dlLen := rfl
@[simp] theorem Record.withTransport_dlCtrl (r : Record) (t : Byte) :
    (r.withTransport t).dlCtrl = r.dlCtrl := rfl
@[simp] theorem Record.withTransport_dlDir (r : Record) (t : Byte) :
    (r.withTransport t).dlDir = r.dlDir := rfl
@[simp] theorem Record.withTransport_dlPrm (r : Record) (t : Byte) :
    (r.withTransport t).dlPrm = r.dlPrm := rfl
@[simp] theorem Record.withTransport_dlFcb (r : Record) (t : Byte) :
    (r.withTransport t).dlFcb = r.dlFcb := rfl
@[simp] theorem Record.withTransport_dlFcv (r : Record) (t : Byte) :
    (r.withTransport t).dlFcv = r.dlFcv := rfl
@[simp] theorem Record.withTransport_dlFc (r : Record) (t : Byte) :
    (r.withTransport t).dlFc = r.dlFc := rfl
@[simp] theorem Record.withTransport_dlLbl (r : Record) (t : Byte) :
    (r.withTransport t).dlLbl = r.dlLbl := rfl
@[simp] theorem Record.withTransport_dlDst (r : Record) (t : Byte) :
    (r.withTransport t).dlDst = r.dlDst := rfl
@[simp] theorem Record.withTransport_dlSrc (r : Record) (t : Byte) :
    (r.withTransport t).dlSrc = r.dlSrc := rfl
@[simp] theorem Record.withTransport_dlCrc (r : Record) (t : Byte) :
    (r.withTransport t).dlCrc = r.dlCrc := rfl
@[simp] theorem Record.withTransport_trByte (r : Record) (t : Byte) :
    (r.withTransport t).trByte = t := rfl
@[simp] theorem Record.withTransport_trFin (r : Record) (t : Byte) :
    (r.withTransport t).trFin = trFinOf t := rfl
@[simp] theorem Record.withTransport_trFir (r : Record) (t : Byte) :
    (r.withTransport t).trFir = trFirOf t := rfl
@[simp] theorem Record.withTransport_trSeq (r : Record) (t : Byte) :
    (r.withTransport t).trSeq = trSeqOf t := rfl
@[simp] theorem Record.withTransport_apCtrl (r : Record) (t : Byte) :
    (r.withTransport t).apCtrl = r.apCtrl := rfl
@[simp] theorem Record.withTransport_apFir (r : Record) (t : Byte) :
    (r.withTransport t).apFir = r.apFir := rfl
@[simp] theorem Record.withTransport_apFin (r : Record) (t : Byte) :
    (r.withTransport t).apFin = r.apFin := rfl
@[simp] theorem Record.withTransport_apCon (r : Record) (t : Byte) :
    (r.withTransport t).apCon = r.apCon := rfl
@[simp] theorem Record.withTransport_apUns (r : Record) (t : Byte) :
    (r.withTransport t).apUns = r.apUns := rfl
@[simp] theorem Record.withTransport_apSeq (r : Record) (t : Byte) :
    (r.withTransport t).apSeq = r.apSeq := rfl
@[simp] theorem Record.withTransport_apFc (r : Record) (t : Byte) :
    (r.withTransport t).apFc = r.apFc := rfl
@[simp] theorem Record.withTransport_apLbl (r : Record) (t : Byte) :
    (r.withTransport t).apLbl = r.apLbl := rfl

/-! ### withApp -/

@[simp] theorem Record.withApp_dlStart (r : Record) (a f : Byte) :
    (r.withApp a f).dlStart = r.dlStart := rfl
@[simp] theorem Record.withApp_dlLen (r : Record) (a f : Byte) :
    (r.withApp a f).dlLen = r.dlLen := rfl
@[simp] theorem Record.withApp_dlCtrl (r : Record) (a f : Byte) :
    (r.withApp a f).dlCtrl = r.dlCtrl := rfl
@[simp] theorem Record.withApp_dlDir (r : Record) (a f : Byte) :
    (r.withApp a f).dlDir = r.dlDir := rfl
@[simp] theorem Record.withApp_dlPrm (r : Record) (a f : Byte) :
    (r.withApp a f).dlPrm = r.dlPrm := rfl
@[simp] theorem Record.withApp_dlFcb (r : Record) (a f : Byte) :
    (r.withApp a f).dlFcb = r.dlFcb := rfl
@[simp] theorem Record.withApp_dlFcv (r : Record) (a f : Byte) :
    (r.withApp a f).dlFcv = r.dlFcv := rfl
@[simp] theorem Record.withApp_dlFc (r : Record) (a f : Byte) :
    (r.withApp a f).dlFc = r.dlFc := rfl
@[simp] theorem Record.withApp_dlLbl (r : Record) (a f : Byte) :
    (r.withApp a f).dlLbl = r.dlLbl := rfl
@[simp] theorem Record.withApp_dlDst (r : Record) (a f : Byte) :
    (r.withApp a f).dlDst = r.dlDst := rfl
@[simp] theorem Record.withApp_dlSrc (r : Record) (a f : Byte) :
    (r.withApp a f).dlSrc = r.dlSrc := rfl
@[simp] theorem Record.withApp_dlCrc (r : Record) (a f : Byte) :
    (r.withApp a f).dlCrc = r.dlCrc := rfl
@[simp] theorem Record.withApp_trByte (r : Record) (a f : Byte) :
    (r.withApp a f).trByte = r.trByte := rfl
@[simp] theorem Record.withApp_trFin (r : Record) (a f : Byte) :
    (r.withApp a f).trFin = r.trFin := rfl
@[simp] theorem Record.withApp_trFir (r : Record) (a f : Byte) :
    (r.withApp a f).trFir = r.trFir := rfl
@[simp] theorem Record.withApp_trSeq (r : Record) (a f : Byte) :
    (r.withApp a f).trSeq = r.trSeq := rfl
@[simp] theorem Record.withApp_apCtrl (r : Record) (a f : Byte) :
    (r.withApp a f).apCtrl = a := rfl
@[simp] theorem Record.withApp_apFir (r : Record) (a f : Byte) :
    (r.withApp a f).apFir = apFirOf a := rfl
@[simp] theorem Record.withApp_apFin (r : Record) (a f : Byte) :
    (r.withApp a f).apFin = apFinOf a := rfl
@[simp] theorem Record.withApp_apCon (r : Record) (a f : Byte) :
    (r.withApp a f).apCon = apConOf a := rfl
@[simp] theorem Record.withApp_apUns (r : Record) (a f : Byte) :
    (r.withApp a f).apUns = apUnsOf a := rfl
@[simp] theorem Record.withApp_apSeq (r : Record) (a f : Byte) :
    (r.withApp a f).apSeq = apSeqOf a := rfl
@[simp] theorem Record.withApp_apFc (r : Record) (a f : Byte) :
    (r.withApp a f).apFc = f := rfl
@[simp] theorem Record.withApp_apLbl (r : Record) (a f : Byte) :
    (r.withApp a f).apLbl = aresolve f := rfl

end Sys2Proof.Machine
end

