-- ==== Sys2Proof/Laws/Ops.lean ====
section
/-! SUPPORT. For each shared operation, what it can do: the guarded buffer reads, the failure entry, the label writes,
HOST's moves and the running of fetched instructions. -/

namespace Sys2Proof.Machine

/-! ## Buffer reads -/

/-- A read inside the buffer hands on the byte there. -/
@[simp] theorem withByte_of_lt {s : State} {a : Nat} (h : a < s.flen)
    (k : Byte → Host.Outcome State Fault Refusal) : withByte s a k = k (byteAt s a) := if_pos h

@[simp] theorem withHalfLE_of_lt {s : State} {a : Nat} (h : a + 1 < s.flen)
    (k : Half → Host.Outcome State Fault Refusal) : withHalfLE s a k = k (le16 (byteAt s a) (byteAt s (a + 1))) := by
  unfold withHalfLE; rw [withByte_of_lt (by omega), withByte_of_lt h]

@[simp] theorem withHalfBE_of_lt {s : State} {a : Nat} (h : a + 1 < s.flen)
    (k : Half → Host.Outcome State Fault Refusal) : withHalfBE s a k = k (be16 (byteAt s a) (byteAt s (a + 1))) := by
  unfold withHalfBE; rw [withByte_of_lt (by omega), withByte_of_lt h]

/-- If a read goes on to a next state, it was inside the buffer. -/
theorem withByte_next {s t : State} {a : Nat} {k : Byte → Host.Outcome State Fault Refusal}
    (h : withByte s a k = .next t) : a < s.flen ∧ k (byteAt s a) = .next t := by
  unfold withByte at h
  split at h
  · exact ⟨‹_›, h⟩
  · cases h

theorem withHalfLE_next {s t : State} {a : Nat} {k : Half → Host.Outcome State Fault Refusal}
    (h : withHalfLE s a k = .next t) : a + 1 < s.flen ∧ k (le16 (byteAt s a) (byteAt s (a + 1))) = .next t := by
  obtain ⟨_, h⟩ := withByte_next h
  exact withByte_next h

theorem withHalfBE_next {s t : State} {a : Nat} {k : Half → Host.Outcome State Fault Refusal}
    (h : withHalfBE s a k = .next t) : a + 1 < s.flen ∧ k (be16 (byteAt s a) (byteAt s (a + 1))) = .next t := by
  obtain ⟨_, h⟩ := withByte_next h
  exact withByte_next h

/-- No buffer read refuses of itself. -/
theorem withByte_refused {s : State} {a : Nat} {k : Byte → Host.Outcome State Fault Refusal} {r : Refusal}
    (h : withByte s a k = .refused r) : a < s.flen ∧ k (byteAt s a) = .refused r := by
  unfold withByte at h
  split at h
  · exact ⟨‹_›, h⟩
  · cases h

/-! ## Label writes -/

theorem writeLinkLabel_eq (prm : Bit) (fc : BitVec 4) (s : State) :
    writeLinkLabel prm fc s = .next (s.setDlLbl (lresolve prm fc)) := rfl

theorem writeAppLabel_eq (code : Byte) (s : State) : writeAppLabel code s = .next (s.setApLbl (aresolve code)) := rfl

/-! ## Running what was fetched -/

@[simp] theorem runAll_nil (s : State) : runAll [] s = .next s := rfl

theorem runAll_cons_next {i : Instr} {s t : State} (h : exec i s = .next t) (rest : List Instr) :
    runAll (i :: rest) s = runAll rest t := by
  simp [runAll, h]

theorem runAll_cons_fault {i : Instr} {s : State} {r : Fault} (h : exec i s = .fault r) (rest : List Instr) :
    runAll (i :: rest) s = .fault r := by
  simp [runAll, h]

theorem runAll_cons_refused {i : Instr} {s : State} {r : Refusal} (h : exec i s = .refused r) (rest : List Instr) :
    runAll (i :: rest) s = .refused r := by
  simp [runAll, h]

/-- One instruction alone. -/
theorem runAll_singleton (i : Instr) (s : State) : runAll [i] s = exec i s := by
  cases h : exec i s with
  | next t => rw [runAll_cons_next h, runAll_nil]
  | fault r => exact runAll_cons_fault h _
  | refused r => exact runAll_cons_refused h _

/-! ## HOST's moves -/

@[simp] theorem parserReads_iff (a : Nat) : parserReads a = true ↔ a < 13 := decide_eq_true_iff

theorem hostWriteByte_cases {a : Nat} {b : Byte} {s : State} :
    (hostWriteByte a b s = .next { s with fb := s.fb.write a b } ∧
      ¬ (s.stage ≠ .idle ∧ a < 13 ∧ s.fb.read? a ≠ some b)) ∨
    (hostWriteByte a b s = .refused .bufferChangedDuringTransaction ∧
      s.stage ≠ .idle ∧ a < 13 ∧ s.fb.read? a ≠ some b) := by
  unfold hostWriteByte
  split
  · rename_i h
    right
    simpa [State.busy, and_assoc] using h
  · rename_i h
    left
    refine ⟨rfl, fun hc => h ?_⟩
    simpa [State.busy, and_assoc] using hc

theorem hostWriteLen_next {n : Nat} {s t : State} (h : hostWriteLen n s = .next t) :
    t = { s with flen := n } ∧ n ≤ Config.fbMax ∧ (s.stage = .idle ∨ n = s.flen) := by
  unfold hostWriteLen at h
  split at h
  · cases h
  · split at h
    · cases h
    · rename_i hb hl
      refine ⟨by cases h; rfl, Nat.le_of_not_lt hl, ?_⟩
      by_cases hs : s.stage = .idle
      · exact .inl hs
      · right
        by_contra hn
        exact hb (by simp [State.busy, hs, hn])

theorem hostReset_eq (s : State) :
    hostReset s = .next { s with record := Record.cleared, result := .none, stage := .idle } := rfl

/-! ## One step -/

theorem step_of_host_nil {s : State} (h : s.host = []) : step s = parserStep s := by
  unfold step; rw [h]

theorem step_of_host_cons {s : State} {m : HostMove} {rest : List HostMove} (h : s.host = m :: rest) :
    step s = applyMove m { s with host := rest } := by
  unfold step; rw [h]

/-- In IDLE, with HOST silent, the machine rests. -/
theorem parserStep_idle {s : State} (h : s.stage = .idle) : parserStep s = .next s := by
  have hf : fetch s = [] := by
    simp [fetch, fetchStage, fetchRow, rowIn, h, Stage.code, decode, decodeIn, decodeStage, Decoded.instr?]
  unfold parserStep; rw [hf]; rfl

@[simp] theorem runSteps_zero (s : State) : runSteps 0 s = .next s := rfl

theorem runSteps_succ_next {s t : State} (h : step s = .next t) (k : Nat) : runSteps (k + 1) s = runSteps k t := by
  simp [runSteps, h]

theorem core_run_next {M : Host.Core} {s t : M.State} (h : M.step s = .next t) (k : Nat) :
    M.run (k + 1) s = M.run k t := by
  simp [Host.Core.run, h]

theorem core_run_fault {M : Host.Core} {s : M.State} {r : M.Fault} (h : M.step s = .fault r) (k : Nat) :
    M.run (k + 1) s = .fault r := by
  simp [Host.Core.run, h]

theorem core_run_refused {M : Host.Core} {s : M.State} {r : M.Refusal} (h : M.step s = .refused r) (k : Nat) :
    M.run (k + 1) s = .refused r := by
  simp [Host.Core.run, h]

/-- The host's run of the machine is the model's. -/
theorem core_run_eq (k : Nat) : ∀ s : State, Sys2Proof.core.run k s = runSteps k s := by
  induction k with
  | zero => exact fun _ => rfl
  | succ k ih =>
    intro s
    unfold runSteps
    cases h : step s with
    | next t => exact (core_run_next (M := Sys2Proof.core) h k).trans (ih t)
    | fault r => exact core_run_fault (M := Sys2Proof.core) h k
    | refused r => exact core_run_refused (M := Sys2Proof.core) h k

end Sys2Proof.Machine
end

