-- ==== Sys2Proof/Laws/PerInstr.lean ====
section
/-! SUPPORT. What is said of every instruction, one lemma per constructor. `EncodesItsRow`: the words the encoder writes
have the length and the fixed bits that spec/opcode_table.json gives the instruction's row. -/

namespace Sys2Proof.Laws

/-- The mask and match columns of a row, for the rows of one byte that have them. -/
def tableMaskMatch : Instr → Option (Byte × Byte)
  | .start => some (0x01, 0x01)
  | .validate | .link | .transport | .app | .afcUnassigned _ => none
  | .lpf00 _ _ _ => some (0x4f, 0x40)
  | .lpf01 _ _ _ => some (0x4f, 0x41)
  | .lpf02 _ _ _ => some (0x4f, 0x42)
  | .lpf03 _ _ _ => some (0x4f, 0x43)
  | .lpf04 _ _ _ => some (0x4f, 0x44)
  | .lpf05 _ _ _ => some (0x4f, 0x45)
  | .lpf06 _ _ _ => some (0x4f, 0x46)
  | .lpf07 _ _ _ => some (0x4f, 0x47)
  | .lpf08 _ _ _ => some (0x4f, 0x48)
  | .lpf09 _ _ _ => some (0x4f, 0x49)
  | .lpf10 _ _ _ => some (0x4f, 0x4a)
  | .lpf11 _ _ _ => some (0x4f, 0x4b)
  | .lpf12 _ _ _ => some (0x4f, 0x4c)
  | .lpf13 _ _ _ => some (0x4f, 0x4d)
  | .lpf14 _ _ _ => some (0x4f, 0x4e)
  | .lpf15 _ _ _ => some (0x4f, 0x4f)
  | .lsf00 _ _ _ => some (0x4f, 0x00)
  | .lsf01 _ _ _ => some (0x4f, 0x01)
  | .lsf02 _ _ _ => some (0x4f, 0x02)
  | .lsf03 _ _ _ => some (0x4f, 0x03)
  | .lsf04 _ _ _ => some (0x4f, 0x04)
  | .lsf05 _ _ _ => some (0x4f, 0x05)
  | .lsf06 _ _ _ => some (0x4f, 0x06)
  | .lsf07 _ _ _ => some (0x4f, 0x07)
  | .lsf08 _ _ _ => some (0x4f, 0x08)
  | .lsf09 _ _ _ => some (0x4f, 0x09)
  | .lsf10 _ _ _ => some (0x4f, 0x0a)
  | .lsf11 _ _ _ => some (0x4f, 0x0b)
  | .lsf12 _ _ _ => some (0x4f, 0x0c)
  | .lsf13 _ _ _ => some (0x4f, 0x0d)
  | .lsf14 _ _ _ => some (0x4f, 0x0e)
  | .lsf15 _ _ _ => some (0x4f, 0x0f)
  | .afc000 => some (0xff, 0x00)
  | .afc001 => some (0xff, 0x01)
  | .afc002 => some (0xff, 0x02)
  | .afc003 => some (0xff, 0x03)
  | .afc004 => some (0xff, 0x04)
  | .afc005 => some (0xff, 0x05)
  | .afc006 => some (0xff, 0x06)
  | .afc007 => some (0xff, 0x07)
  | .afc008 => some (0xff, 0x08)
  | .afc009 => some (0xff, 0x09)
  | .afc010 => some (0xff, 0x0a)
  | .afc011 => some (0xff, 0x0b)
  | .afc012 => some (0xff, 0x0c)
  | .afc013 => some (0xff, 0x0d)
  | .afc014 => some (0xff, 0x0e)
  | .afc015 => some (0xff, 0x0f)
  | .afc016 => some (0xff, 0x10)
  | .afc017 => some (0xff, 0x11)
  | .afc018 => some (0xff, 0x12)
  | .afc019 => some (0xff, 0x13)
  | .afc020 => some (0xff, 0x14)
  | .afc021 => some (0xff, 0x15)
  | .afc022 => some (0xff, 0x16)
  | .afc023 => some (0xff, 0x17)
  | .afc024 => some (0xff, 0x18)
  | .afc025 => some (0xff, 0x19)
  | .afc026 => some (0xff, 0x1a)
  | .afc027 => some (0xff, 0x1b)
  | .afc028 => some (0xff, 0x1c)
  | .afc029 => some (0xff, 0x1d)
  | .afc030 => some (0xff, 0x1e)
  | .afc031 => some (0xff, 0x1f)
  | .afc032 => some (0xff, 0x20)
  | .afc033 => some (0xff, 0x21)
  | .afc129 => some (0xff, 0x81)
  | .afc130 => some (0xff, 0x82)
  | .afc131 => some (0xff, 0x83)

/-- Bytes of one word of an instruction in its space. -/
def wordBytes : Space → Nat
  | .marker => 2
  | .hostCmd | .stage | .linkCtrl | .appFc => 1

/-- A byte has the fixed bits of a mask and match pair. -/
def fixedBitsOf (mm : Option (Byte × Byte)) (b : Byte) : Prop :=
  match mm with
  | some (mask, pattern) => b &&& mask = pattern
  | none => True

/-- The encoder's words have their row's length and fixed bits. -/
def EncodesItsRow.Statement (i : Instr) : Prop :=
  (encode i).length = wordBytes i.space ∧ ∀ b ∈ encode i, fixedBitsOf (tableMaskMatch i) b

/-- A link control byte made of field values shows PRM and FC under the rows' mask 0x4F (R105). -/
theorem linkCtrlByte_masked : ∀ (d p b v : Bit) (fc : BitVec 4),
    linkCtrlByte d p b v fc &&& 0x4f = p.setWidth 8 <<< 6 ||| fc.setWidth 8 := by decide

/-- The statement for a link row, from the masked byte. -/
theorem encodesItsRow_link {i : Instr} {d p b v : Bit} {fc : BitVec 4} {pattern : Byte}
    (hs : i.space = .linkCtrl) (he : encode i = [linkCtrlByte d p b v fc])
    (hm : tableMaskMatch i = some (0x4f, pattern)) (hp : p.setWidth 8 <<< 6 ||| fc.setWidth 8 = pattern) :
    EncodesItsRow.Statement i := by
  refine ⟨by rw [hs, he]; rfl, fun x hx => ?_⟩
  rw [he, List.mem_singleton] at hx
  rw [hx, hm]
  exact (linkCtrlByte_masked d p b v fc).trans hp

/-- The statement for an application row. -/
theorem encodesItsRow_app {i : Instr} {n : Byte}
    (hs : i.space = .appFc) (he : encode i = [n]) (hm : tableMaskMatch i = some (0xff, n) ∨ tableMaskMatch i = none) :
    EncodesItsRow.Statement i := by
  refine ⟨by rw [hs, he]; rfl, fun x hx => ?_⟩
  rw [he, List.mem_singleton] at hx
  subst hx
  rcases hm with hm | hm
  · rw [hm]; exact BitVec.and_allOnes
  · rw [hm]; trivial

namespace EncodesItsRow

theorem start : Statement .start := ⟨rfl, by simp [encode, tableMaskMatch, fixedBitsOf]⟩
theorem validate : Statement .validate := ⟨rfl, fun _ _ => trivial⟩
theorem link : Statement .link := ⟨rfl, fun _ _ => trivial⟩
theorem transport : Statement .transport := ⟨rfl, fun _ _ => trivial⟩
theorem app : Statement .app := ⟨rfl, fun _ _ => trivial⟩
theorem lpf00 (d b v : Bit) : Statement (.lpf00 d b v) := encodesItsRow_link rfl rfl rfl rfl
theorem lpf01 (d b v : Bit) : Statement (.lpf01 d b v) := encodesItsRow_link rfl rfl rfl rfl
theorem lpf02 (d b v : Bit) : Statement (.lpf02 d b v) := encodesItsRow_link rfl rfl rfl rfl
theorem lpf03 (d b v : Bit) : Statement (.lpf03 d b v) := encodesItsRow_link rfl rfl rfl rfl
theorem lpf04 (d b v : Bit) : Statement (.lpf04 d b v) := encodesItsRow_link rfl rfl rfl rfl
theorem lpf05 (d b v : Bit) : Statement (.lpf05 d b v) := encodesItsRow_link rfl rfl rfl rfl
theorem lpf06 (d b v : Bit) : Statement (.lpf06 d b v) := encodesItsRow_link rfl rfl rfl rfl
theorem lpf07 (d b v : Bit) : Statement (.lpf07 d b v) := encodesItsRow_link rfl rfl rfl rfl
theorem lpf08 (d b v : Bit) : Statement (.lpf08 d b v) := encodesItsRow_link rfl rfl rfl rfl
theorem lpf09 (d b v : Bit) : Statement (.lpf09 d b v) := encodesItsRow_link rfl rfl rfl rfl
theorem lpf10 (d b v : Bit) : Statement (.lpf10 d b v) := encodesItsRow_link rfl rfl rfl rfl
theorem lpf11 (d b v : Bit) : Statement (.lpf11 d b v) := encodesItsRow_link rfl rfl rfl rfl
theorem lpf12 (d b v : Bit) : Statement (.lpf12 d b v) := encodesItsRow_link rfl rfl rfl rfl
theorem lpf13 (d b v : Bit) : Statement (.lpf13 d b v) := encodesItsRow_link rfl rfl rfl rfl
theorem lpf14 (d b v : Bit) : Statement (.lpf14 d b v) := encodesItsRow_link rfl rfl rfl rfl
theorem lpf15 (d b v : Bit) : Statement (.lpf15 d b v) := encodesItsRow_link rfl rfl rfl rfl
theorem lsf00 (d b v : Bit) : Statement (.lsf00 d b v) := encodesItsRow_link rfl rfl rfl rfl
theorem lsf01 (d b v : Bit) : Statement (.lsf01 d b v) := encodesItsRow_link rfl rfl rfl rfl
theorem lsf02 (d b v : Bit) : Statement (.lsf02 d b v) := encodesItsRow_link rfl rfl rfl rfl
theorem lsf03 (d b v : Bit) : Statement (.lsf03 d b v) := encodesItsRow_link rfl rfl rfl rfl
theorem lsf04 (d b v : Bit) : Statement (.lsf04 d b v) := encodesItsRow_link rfl rfl rfl rfl
theorem lsf05 (d b v : Bit) : Statement (.lsf05 d b v) := encodesItsRow_link rfl rfl rfl rfl
theorem lsf06 (d b v : Bit) : Statement (.lsf06 d b v) := encodesItsRow_link rfl rfl rfl rfl
theorem lsf07 (d b v : Bit) : Statement (.lsf07 d b v) := encodesItsRow_link rfl rfl rfl rfl
theorem lsf08 (d b v : Bit) : Statement (.lsf08 d b v) := encodesItsRow_link rfl rfl rfl rfl
theorem lsf09 (d b v : Bit) : Statement (.lsf09 d b v) := encodesItsRow_link rfl rfl rfl rfl
theorem lsf10 (d b v : Bit) : Statement (.lsf10 d b v) := encodesItsRow_link rfl rfl rfl rfl
theorem lsf11 (d b v : Bit) : Statement (.lsf11 d b v) := encodesItsRow_link rfl rfl rfl rfl
theorem lsf12 (d b v : Bit) : Statement (.lsf12 d b v) := encodesItsRow_link rfl rfl rfl rfl
theorem lsf13 (d b v : Bit) : Statement (.lsf13 d b v) := encodesItsRow_link rfl rfl rfl rfl
theorem lsf14 (d b v : Bit) : Statement (.lsf14 d b v) := encodesItsRow_link rfl rfl rfl rfl
theorem lsf15 (d b v : Bit) : Statement (.lsf15 d b v) := encodesItsRow_link rfl rfl rfl rfl
theorem afc000 : Statement .afc000 := encodesItsRow_app rfl rfl (.inl rfl)
theorem afc001 : Statement .afc001 := encodesItsRow_app rfl rfl (.inl rfl)
theorem afc002 : Statement .afc002 := encodesItsRow_app rfl rfl (.inl rfl)
theorem afc003 : Statement .afc003 := encodesItsRow_app rfl rfl (.inl rfl)
theorem afc004 : Statement .afc004 := encodesItsRow_app rfl rfl (.inl rfl)
theorem afc005 : Statement .afc005 := encodesItsRow_app rfl rfl (.inl rfl)
theorem afc006 : Statement .afc006 := encodesItsRow_app rfl rfl (.inl rfl)
theorem afc007 : Statement .afc007 := encodesItsRow_app rfl rfl (.inl rfl)
theorem afc008 : Statement .afc008 := encodesItsRow_app rfl rfl (.inl rfl)
theorem afc009 : Statement .afc009 := encodesItsRow_app rfl rfl (.inl rfl)
theorem afc010 : Statement .afc010 := encodesItsRow_app rfl rfl (.inl rfl)
theorem afc011 : Statement .afc011 := encodesItsRow_app rfl rfl (.inl rfl)
theorem afc012 : Statement .afc012 := encodesItsRow_app rfl rfl (.inl rfl)
theorem afc013 : Statement .afc013 := encodesItsRow_app rfl rfl (.inl rfl)
theorem afc014 : Statement .afc014 := encodesItsRow_app rfl rfl (.inl rfl)
theorem afc015 : Statement .afc015 := encodesItsRow_app rfl rfl (.inl rfl)
theorem afc016 : Statement .afc016 := encodesItsRow_app rfl rfl (.inl rfl)
theorem afc017 : Statement .afc017 := encodesItsRow_app rfl rfl (.inl rfl)
theorem afc018 : Statement .afc018 := encodesItsRow_app rfl rfl (.inl rfl)
theorem afc019 : Statement .afc019 := encodesItsRow_app rfl rfl (.inl rfl)
theorem afc020 : Statement .afc020 := encodesItsRow_app rfl rfl (.inl rfl)
theorem afc021 : Statement .afc021 := encodesItsRow_app rfl rfl (.inl rfl)
theorem afc022 : Statement .afc022 := encodesItsRow_app rfl rfl (.inl rfl)
theorem afc023 : Statement .afc023 := encodesItsRow_app rfl rfl (.inl rfl)
theorem afc024 : Statement .afc024 := encodesItsRow_app rfl rfl (.inl rfl)
theorem afc025 : Statement .afc025 := encodesItsRow_app rfl rfl (.inl rfl)
theorem afc026 : Statement .afc026 := encodesItsRow_app rfl rfl (.inl rfl)
theorem afc027 : Statement .afc027 := encodesItsRow_app rfl rfl (.inl rfl)
theorem afc028 : Statement .afc028 := encodesItsRow_app rfl rfl (.inl rfl)
theorem afc029 : Statement .afc029 := encodesItsRow_app rfl rfl (.inl rfl)
theorem afc030 : Statement .afc030 := encodesItsRow_app rfl rfl (.inl rfl)
theorem afc031 : Statement .afc031 := encodesItsRow_app rfl rfl (.inl rfl)
theorem afc032 : Statement .afc032 := encodesItsRow_app rfl rfl (.inl rfl)
theorem afc033 : Statement .afc033 := encodesItsRow_app rfl rfl (.inl rfl)
theorem afc129 : Statement .afc129 := encodesItsRow_app rfl rfl (.inl rfl)
theorem afc130 : Statement .afc130 := encodesItsRow_app rfl rfl (.inl rfl)
theorem afc131 : Statement .afc131 := encodesItsRow_app rfl rfl (.inl rfl)
theorem afcUnassigned (code : Byte) : Statement (.afcUnassigned code) := encodesItsRow_app rfl rfl (.inr rfl)

end EncodesItsRow

end Sys2Proof.Laws
end

