-- ==== Sys2Proof/Tests/Slice0.lean ====
section
/-! SUPPORT. Tests of single operations against the spec's own words and vectors (95_test_vectors.md), and for each
obligation that has hypotheses a witness that meets them. Expected values are the spec's, or worked from its
encodings by hand. -/

namespace Sys2Proof.Tests

open Sys2Proof Sys2Proof.Machine

/-! ## Helpers -/

/-- A state with a stage, a buffer of which FLEN bytes count, and HOST's moves; the rest as after reset. -/
def at_ (v : Stage) (flen : Nat) (bytes : List Byte) (moves : List HostMove) : State :=
  { State.reset with stage := v, flen := flen, fb := Memory.writeAll [] 0 bytes, host := moves }

/-- The source's fixture (V1). -/
def fixture : List Byte :=
  [0x05, 0x64, 0x08, 0xc4, 0x0a, 0x00, 0x01, 0x00, 0xfc, 0x42, 0xc0, 0xc0, 0x0e, 0x7e, 0xdc]

/-- The fixture with one byte replaced. -/
def fixtureWith (a : Nat) (b : Byte) : List Byte := fixture.set a b

/-- The outcome is a next state that passes a check. -/
def nextIs (o : Host.Outcome State Fault Refusal) (p : State → Bool) : Bool :=
  match o with
  | .next t => p t
  | _ => false

/-- A next state that passes a check exists as the equation the obligations' hypotheses ask for. -/
theorem next_of_nextIs {o : Host.Outcome State Fault Refusal} {p : State → Bool} (h : nextIs o p = true) :
    ∃ t, o = .next t ∧ p t = true := by
  cases o with
  | next t => exact ⟨t, rfl, h⟩
  | fault r => cases h
  | refused r => cases h

/-- The outcome is the refusal of a reason. -/
def refusedIs (o : Host.Outcome State Fault Refusal) (r : Refusal) : Bool :=
  match o with
  | .refused q => q == r
  | _ => false

/-! ## Well-formedness -/

theorem test_wellFormed_refuses_named_codes :
    (Instr.afcUnassigned 0).wellFormed = false ∧ (Instr.afcUnassigned 33).wellFormed = false ∧
    (Instr.afcUnassigned 129).wellFormed = false ∧ (Instr.afcUnassigned 131).wellFormed = false := by decide

theorem test_wellFormed_accepts_other_codes :
    (Instr.afcUnassigned 34).wellFormed = true ∧ (Instr.afcUnassigned 50).wellFormed = true ∧
    (Instr.afcUnassigned 128).wellFormed = true ∧ (Instr.afcUnassigned 132).wellFormed = true ∧
    (Instr.afcUnassigned 255).wellFormed = true ∧ Instr.start.wellFormed = true := by decide

/-! ## Decoding: words written out from the spec's encodings -/

/-- CMD: bit 0 is START, bits 7 to 1 are ignored (R33, V74). -/
theorem test_decode_cmd :
    decode .hostCmd [0b00000001] = .ok .start ∧ decode .hostCmd [0b10000001] = .ok .start ∧
    decode .hostCmd [0b11111110] = .rejected .noCommand ∧ decode .hostCmd [] = .rejected .wrongLength := by decide

/-- The marker, and the variants of V32. -/
theorem test_decode_marker :
    decode .marker [0x05, 0x64] = .ok .validate ∧ decode .marker [0x05, 0x65] = .rejected .notMarker ∧
    decode .marker [0x04, 0x64] = .rejected .notMarker ∧ decode .marker [0x64, 0x05] = .rejected .notMarker ∧
    decode .marker [0x85, 0x64] = .rejected .notMarker ∧ decode .marker [0x05, 0xe4] = .rejected .notMarker ∧
    decode .marker [0x05] = .rejected .wrongLength := by decide

/-- The STAGE codes of R30. -/
theorem test_decode_stage :
    decode .stage [0] = .rejected .idleStage ∧ decode .stage [1] = .ok .validate ∧ decode .stage [2] = .ok .link ∧
    decode .stage [3] = .ok .transport ∧ decode .stage [4] = .ok .app ∧ decode .stage [5] = .rejected .reservedStage ∧
    decode .stage [255] = .rejected .reservedStage := by decide

/-! A link control byte is DIR, PRM, FCB, FCV, FC from bit 7 down (R91). -/

theorem test_decode_lpf_00_to_07 :
    decode .linkCtrl [0b11000000] = .ok (.lpf00 1 0 0) ∧ decode .linkCtrl [0b01100001] = .ok (.lpf01 0 1 0) ∧
    decode .linkCtrl [0b01010010] = .ok (.lpf02 0 0 1) ∧ decode .linkCtrl [0b11100011] = .ok (.lpf03 1 1 0) ∧
    decode .linkCtrl [0b01110100] = .ok (.lpf04 0 1 1) ∧ decode .linkCtrl [0b11010101] = .ok (.lpf05 1 0 1) ∧
    decode .linkCtrl [0b11110110] = .ok (.lpf06 1 1 1) ∧ decode .linkCtrl [0b01000111] = .ok (.lpf07 0 0 0) := by decide

theorem test_decode_lpf_08_to_15 :
    decode .linkCtrl [0b11001000] = .ok (.lpf08 1 0 0) ∧ decode .linkCtrl [0b01101001] = .ok (.lpf09 0 1 0) ∧
    decode .linkCtrl [0b01011010] = .ok (.lpf10 0 0 1) ∧ decode .linkCtrl [0b11101011] = .ok (.lpf11 1 1 0) ∧
    decode .linkCtrl [0b01111100] = .ok (.lpf12 0 1 1) ∧ decode .linkCtrl [0b11011101] = .ok (.lpf13 1 0 1) ∧
    decode .linkCtrl [0b11111110] = .ok (.lpf14 1 1 1) ∧ decode .linkCtrl [0b01001111] = .ok (.lpf15 0 0 0) := by decide

theorem test_decode_lsf_00_to_07 :
    decode .linkCtrl [0b10000000] = .ok (.lsf00 1 0 0) ∧ decode .linkCtrl [0b00100001] = .ok (.lsf01 0 1 0) ∧
    decode .linkCtrl [0b00010010] = .ok (.lsf02 0 0 1) ∧ decode .linkCtrl [0b10100011] = .ok (.lsf03 1 1 0) ∧
    decode .linkCtrl [0b00110100] = .ok (.lsf04 0 1 1) ∧ decode .linkCtrl [0b10010101] = .ok (.lsf05 1 0 1) ∧
    decode .linkCtrl [0b10110110] = .ok (.lsf06 1 1 1) ∧ decode .linkCtrl [0b00000111] = .ok (.lsf07 0 0 0) := by decide

theorem test_decode_lsf_08_to_15 :
    decode .linkCtrl [0b10001000] = .ok (.lsf08 1 0 0) ∧ decode .linkCtrl [0b00101001] = .ok (.lsf09 0 1 0) ∧
    decode .linkCtrl [0b00011010] = .ok (.lsf10 0 0 1) ∧ decode .linkCtrl [0b10101011] = .ok (.lsf11 1 1 0) ∧
    decode .linkCtrl [0b00111100] = .ok (.lsf12 0 1 1) ∧ decode .linkCtrl [0b10011101] = .ok (.lsf13 1 0 1) ∧
    decode .linkCtrl [0b10111110] = .ok (.lsf14 1 1 1) ∧ decode .linkCtrl [0b00001111] = .ok (.lsf15 0 0 0) := by decide

/-! An application function byte is the code itself (R94). -/

theorem test_decode_afc_000_to_016 :
    decode .appFc [0b00000000] = .ok .afc000 ∧ decode .appFc [0b00000001] = .ok .afc001 ∧
    decode .appFc [0b00000010] = .ok .afc002 ∧ decode .appFc [0b00000011] = .ok .afc003 ∧
    decode .appFc [0b00000100] = .ok .afc004 ∧ decode .appFc [0b00000101] = .ok .afc005 ∧
    decode .appFc [0b00000110] = .ok .afc006 ∧ decode .appFc [0b00000111] = .ok .afc007 ∧
    decode .appFc [0b00001000] = .ok .afc008 ∧ decode .appFc [0b00001001] = .ok .afc009 ∧
    decode .appFc [0b00001010] = .ok .afc010 ∧ decode .appFc [0b00001011] = .ok .afc011 ∧
    decode .appFc [0b00001100] = .ok .afc012 ∧ decode .appFc [0b00001101] = .ok .afc013 ∧
    decode .appFc [0b00001110] = .ok .afc014 ∧ decode .appFc [0b00001111] = .ok .afc015 ∧
    decode .appFc [0b00010000] = .ok .afc016 := by decide

theorem test_decode_afc_017_to_033 :
    decode .appFc [0b00010001] = .ok .afc017 ∧ decode .appFc [0b00010010] = .ok .afc018 ∧
    decode .appFc [0b00010011] = .ok .afc019 ∧ decode .appFc [0b00010100] = .ok .afc020 ∧
    decode .appFc [0b00010101] = .ok .afc021 ∧ decode .appFc [0b00010110] = .ok .afc022 ∧
    decode .appFc [0b00010111] = .ok .afc023 ∧ decode .appFc [0b00011000] = .ok .afc024 ∧
    decode .appFc [0b00011001] = .ok .afc025 ∧ decode .appFc [0b00011010] = .ok .afc026 ∧
    decode .appFc [0b00011011] = .ok .afc027 ∧ decode .appFc [0b00011100] = .ok .afc028 ∧
    decode .appFc [0b00011101] = .ok .afc029 ∧ decode .appFc [0b00011110] = .ok .afc030 ∧
    decode .appFc [0b00011111] = .ok .afc031 ∧ decode .appFc [0b00100000] = .ok .afc032 ∧
    decode .appFc [0b00100001] = .ok .afc033 := by decide

theorem test_decode_afc_129_to_131 :
    decode .appFc [0b10000001] = .ok .afc129 ∧ decode .appFc [0b10000010] = .ok .afc130 ∧
    decode .appFc [0b10000011] = .ok .afc131 := by decide

/-- The gaps around the named ranges (V61). -/
theorem test_decode_afc_unassigned :
    decode .appFc [0x22] = .ok (.afcUnassigned 34) ∧ decode .appFc [0x32] = .ok (.afcUnassigned 50) ∧
    decode .appFc [0x80] = .ok (.afcUnassigned 128) ∧ decode .appFc [0x84] = .ok (.afcUnassigned 132) ∧
    decode .appFc [0xff] = .ok (.afcUnassigned 255) := by decide

/-- In a build that does not name code 13, R105 c gives it the default row; the ill-formed terms are refused there. -/
theorem test_decode_in_a_build :
    decodeIn (fun c => c == 14) .appFc [0x0e] = .ok .afc014 ∧
    decodeIn (fun c => c == 14) .appFc [0x0d] = .ok (.afcUnassigned 13) ∧
    Instr.afc013.wellFormedIn (fun c => c == 14) = false ∧
    (Instr.afcUnassigned 14).wellFormedIn (fun c => c == 14) = false := by decide

/-- Bare words of the opcode table, and words no row has (log 1). -/
theorem test_decodeTableWord :
    decodeTableWord 16 0x0564 = some .validate ∧ decodeTableWord 8 0x44 = some (.lpf04 0 0 0) ∧
    decodeTableWord 8 0x83 = some .afc131 ∧ decodeTableWord 8 0x0e = some .afc014 ∧
    decodeTableWord 24 0 = none := by decide

/-- A word placed by withFetchWord is what the next step runs: the label, the stage and the failure show it. -/
theorem test_step_runs_the_placed_word :
    nextIs (step (State.reset.withFetchWord 8 0x44)) (fun t => t.record.dlLbl.name == "Unconfirmed User Data") = true ∧
    nextIs (step (State.reset.withFetchWord 16 0x0564)) (fun t => t.stage == .link) = true ∧
    nextIs (step (State.reset.withFetchWord 8 0x21)) (fun t => t.stage == .idle && t.record.apFc == 33) = true ∧
    nextIs (step (State.reset.withFetchWord 80 0xff)) (fun t => t.stage == .transport) = true := by decide

/-! ## Fields and assemblies -/

/-- V20: 0xc4 and 0xa5 as link control bytes. -/
theorem test_link_fields :
    (dirOf 0xc4, prmOf 0xc4, fcbOf 0xc4, fcvOf 0xc4, fcOf 0xc4) = (1, 1, 0, 0, 4) ∧
    (dirOf 0xa5, prmOf 0xa5, fcbOf 0xa5, fcvOf 0xa5, fcOf 0xa5) = (1, 0, 1, 0, 5) := by decide

/-- V21: 0x80, 0xc4 and 0xa5 as transport bytes; V23: the sequence wraps. -/
theorem test_transport_fields :
    (trFinOf 0x80, trFirOf 0x80, trSeqOf 0x80) = (1, 0, 0) ∧ (trFinOf 0xa5, trFirOf 0xa5, trSeqOf 0xa5) = (1, 0, 37) ∧
    (trFinOf 0x40, trFirOf 0x40, trSeqOf 0x40) = (0, 1, 0) ∧ trSeqOf 0x3f = 63 := by decide

/-- V22: 0x80 is FIR here; V60: 0x64. -/
theorem test_app_fields :
    (apFirOf 0x80, apFinOf 0x80, apConOf 0x80, apUnsOf 0x80, apSeqOf 0x80) = (1, 0, 0, 0, 0) ∧
    (apFirOf 0x64, apFinOf 0x64, apConOf 0x64, apUnsOf 0x64, apSeqOf 0x64) = (0, 1, 1, 0, 4) ∧
    (apUnsOf 0x10, apSeqOf 0x10, apSeqOf 0x0f) = (1, 0, 15) := by decide

/-- V24. -/
theorem test_byte_assembly :
    le16 0x0a 0x00 = 10 ∧ le16 0x00 0x04 = 1024 ∧ le16 0xfc 0x42 = 0x42fc ∧ le16 0x34 0x12 = 0x1234 ∧
    be16 0x05 0x64 = 0x0564 ∧ be16 0x64 0x05 = 0x6405 ∧ be16 0x00 0xff = 0x00ff := by decide

/-! ## Operations -/

/-- START from IDLE clears the old result and record; busy it does nothing (V70, V71). -/
theorem test_start :
    nextIs (exec .start { State.reset with result := .ok, record := { Record.cleared with dlLen := 8 } })
      (fun t => t.stage == .validate && t.result == .none && t.record.dlLen == 0) = true ∧
    nextIs (exec .start { at_ .transport 15 fixture [] with record := { Record.cleared with dlLen := 8 } })
      (fun t => t.stage == .transport && t.record.dlLen == 8) = true := by decide

/-- VALIDATE at its boundaries (V30, V31): length before marker. -/
theorem test_validate :
    nextIs (exec .validate (at_ .validate 10 fixture [])) (fun t => t.stage == .link && t.result == .none) = true ∧
    nextIs (exec .validate (at_ .validate 9 fixture [])) (fun t => t.stage == .idle && t.result == .frameTooShort) = true ∧
    nextIs (exec .validate (at_ .validate 9 (List.replicate 9 0xff) [])) (fun t => t.result == .frameTooShort) = true ∧
    nextIs (exec .validate (at_ .validate 10 (fixtureWith 1 0x65) [])) (fun t => t.result == .notDnp3) = true := by
  decide

/-- LINK on the fixture (V1): the byte orders, the fields, the label. -/
theorem test_link :
    nextIs (exec .link (at_ .link 10 fixture [])) (fun t =>
      t.stage == .transport && t.record.dlStart == 0x0564 && t.record.dlLen == 8 && t.record.dlDir == 1 &&
      t.record.dlPrm == 1 && t.record.dlFcb == 0 && t.record.dlFcv == 0 && t.record.dlFc == 4 &&
      t.record.dlLbl.name == "Unconfirmed User Data" && t.record.dlDst == 10 && t.record.dlSrc == 1 &&
      t.record.dlCrc == 0x42fc && t.record.trByte == 0) = true := by decide

/-- LINK on 0xc7 (V62): an unused index gives the placeholder and no failure. -/
theorem test_link_unassigned :
    nextIs (exec .link (at_ .link 10 (fixtureWith 3 0xc7) [])) (fun t =>
      t.record.dlLbl == ⟨0, "Unassigned"⟩ && t.record.dlFc == 7 && t.result == .none) = true := by decide

/-- TRANSPORT on 0xbf (V50) and on 10 bytes (V75). -/
theorem test_transport :
    nextIs (exec .transport (at_ .transport 11 (fixtureWith 10 0xbf) [])) (fun t =>
      t.stage == .app && t.record.trByte == 0xbf && t.record.trFin == 1 && t.record.trFir == 0 &&
      t.record.trSeq == 63) = true ∧
    nextIs (exec .transport { at_ .transport 10 fixture [] with record := { Record.cleared with dlDst := 10 } })
      (fun t => t.stage == .idle && t.result == .frameTooShort && t.record.dlDst == 0) = true := by decide

/-- APP on control 0xf2 (V60) with code 50 (V5), and on 12 bytes (V30). -/
theorem test_app :
    nextIs (exec .app (at_ .app 13 ((fixtureWith 11 0xf2).set 12 0x32) [])) (fun t =>
      t.stage == .idle && t.result == .ok && t.record.apFir == 1 && t.record.apFin == 1 && t.record.apCon == 1 &&
      t.record.apUns == 1 && t.record.apSeq == 2 && t.record.apFc == 50 &&
      t.record.apLbl == ⟨0, "Unassigned"⟩) = true ∧
    nextIs (exec .app (at_ .app 12 fixture [])) (fun t => t.stage == .idle && t.result == .frameTooShort) = true := by
  decide

/-- A code row writes its entry and leaves the rest (R208). -/
theorem test_code_rows :
    nextIs (exec (.lpf04 1 0 0) State.reset) (fun t => t.record.dlLbl == ⟨1, "Unconfirmed User Data"⟩ && t.stage == .idle) = true ∧
    nextIs (exec (.lpf13 0 1 1) State.reset) (fun t => t.record.dlLbl == ⟨0, "Unassigned"⟩) = true ∧
    nextIs (exec (.afcUnassigned 50) State.reset)
      (fun t => t.record.apLbl == ⟨0, "Unassigned"⟩ && t.record.dlLbl == ⟨0, ""⟩) = true := by decide

/-- STATUS values (95_test_vectors.md section 0, V70). -/
theorem test_status :
    State.reset.status = 0x00 ∧ (at_ .transport 0 [] []).status = 0x03 ∧
    { State.reset with result := .ok }.status = 0x08 ∧ { State.reset with result := .frameTooShort }.status = 0x10 ∧
    { State.reset with result := .notDnp3 }.status = 0x18 := by decide

/-- HOST's writes: a byte in IDLE, FLEN in IDLE, and both refused while a transaction runs (R370). -/
theorem test_host_writes :
    nextIs (step (at_ .idle 15 fixture [.writeByte 3 0x44])) (fun t => byteAt t 3 == 0x44 && byteAt t 2 == 0x08) = true ∧
    nextIs (step (at_ .idle 15 fixture [.writeLen 20])) (fun t => t.flen == 20) = true ∧
    refusedIs (step (at_ .app 15 fixture [.writeByte 12 0])) .bufferChangedDuringTransaction = true ∧
    refusedIs (step (at_ .app 15 fixture [.writeLen 14])) .bufferChangedDuringTransaction = true := by decide

/-- Reset during a transaction (V73): the buffer and FLEN stay. -/
theorem test_reset_during_transaction :
    nextIs (step { at_ .app 15 fixture [.reset] with record := { Record.cleared with dlDst := 10 } }) (fun t =>
      t.stage == .idle && t.result == .none && t.record.dlDst == 0 && t.flen == 15 && byteAt t 3 == 0xc4) = true := by
  decide

/-- Renderings of V1 and V5, and dec at its digit counts (R110 to R112). -/
theorem test_renderings :
    renderLink ⟨1, "Unconfirmed User Data"⟩ 4 = "Unconfirmed User Data (4)" ∧
    renderApp ⟨1, "Warm Restart"⟩ 14 = "Warm Restart (0x0e)" ∧ renderApp ⟨0, "Unassigned"⟩ 50 = "Unassigned (0x32)" ∧
    dec 0 = "0" ∧ dec 10 = "10" ∧ hex4 0x42fc = "42fc" ∧ hex2 0xc0 = "c0" := by decide

/-! ## Witnesses: the hypotheses of each obligation are met, clause by clause at the boundaries -/

theorem witness_DecodeOfEncodeIsTheInstruction :
    (Instr.afcUnassigned 34).wellFormed = true ∧ (Instr.lsf15 1 1 1).wellFormed = true ∧ Instr.app.wellFormed = true := by
  decide

theorem witness_HalvesAreAssembledInTheirByteOrder : 0 + 1 < (at_ .link 2 [] []).flen := by decide

theorem witness_SecondaryTableFollowsItsUsedSet :
    defaultRoms.secUsed 0 = true ∧ defaultRoms.secUsed 15 = true ∧ defaultRoms.secUsed 2 = false := by decide

theorem witness_ApplicationTableNamesOnlyItsRanges :
    (33 < (34 : Byte).toNat ∧ (128 : Byte).toNat < 129) ∧ 131 < (132 : Byte).toNat ∧
    (defaultRoms.appNamed 33 = true ∧ (33 : Byte).toNat ≤ 33) ∧ (defaultRoms.appNamed 129 = true ∧ 129 ≤ (129 : Byte).toNat) ∧
    { defaultRoms with appNamed := fun c => c == 14 }.appNamed 0 = false ∧
    { defaultRoms with appNamed := fun c => c == 14 }.appNamed 131 = false := by decide

theorem witness_EveryLegalTableIsAnInstance :
    tableName "Named" ∧ tableName (defaultPriNames.getD 0 "") ∧ tableName (defaultSecNames.getD 15 "") ∧
    tableName (defaultAppName 131) ∧
    ∀ c : Byte, defaultRoms.appNamed c = true → inAppRange c = true := by
  refine ⟨by unfold tableName; decide, by unfold tableName; decide, by unfold tableName; decide,
    by unfold tableName; decide, fun _ h => h⟩

theorem witness_StartBeginsATransactionOnlyInIdle :
    State.reset.stage = .idle ∧ (at_ .validate 15 fixture []).stage ≠ .idle := by decide

theorem witness_ValidateTestsLengthThenMarker :
    (10 ≤ (at_ .validate 10 fixture []).flen ∧ byteAt (at_ .validate 10 fixture []) 0 = 0x05 ∧
      byteAt (at_ .validate 10 fixture []) 1 = 0x64) ∧
    (at_ .validate 9 fixture []).flen < 10 ∧
    (10 ≤ (at_ .validate 10 (fixtureWith 0 0x04) []).flen ∧ byteAt (at_ .validate 10 (fixtureWith 0 0x04) []) 0 ≠ 0x05) ∧
    byteAt (at_ .validate 10 (fixtureWith 1 0x65) []) 1 ≠ 0x64 := by decide

theorem witness_LinkWritesTheTwelveLinkRegisters : 10 ≤ (at_ .link 10 fixture []).flen := by decide

theorem witness_TransportWritesItsRegistersOrRaises :
    11 ≤ (at_ .transport 11 fixture []).flen ∧ (at_ .transport 10 fixture []).flen < 11 := by decide

theorem witness_AppWritesItsRegistersOrRaises :
    13 ≤ (at_ .app 13 fixture []).flen ∧ (at_ .app 12 fixture []).flen < 13 := by decide

/-- Each link row has control bytes that select it; shown at its least and its greatest. -/
theorem witness_PrimaryAndSecondaryRowsWriteTheirEntry :
    ∀ n : BitVec 4, (0x40 ||| n.setWidth 8 : Byte) &&& 0x4f = 0x40 ||| n.setWidth 8 ∧
      (0xf0 ||| n.setWidth 8 : Byte) &&& 0x4f = 0x40 ||| n.setWidth 8 ∧
      (n.setWidth 8 : Byte) &&& 0x4f = n.setWidth 8 ∧ (0xb0 ||| n.setWidth 8 : Byte) &&& 0x4f = n.setWidth 8 := by decide

theorem witness_ResponseAndDefaultRowsWriteTheirEntry :
    (33 < (34 : Byte).toNat ∧ (34 : Byte).toNat < 129) ∧ (33 < (128 : Byte).toNat ∧ (128 : Byte).toNat < 129) ∧
    131 < (132 : Byte).toNat ∧ 131 < (255 : Byte).toNat := by decide

theorem witness_TheSelectedRowWritesTheLabelOfItsOperation :
    decode .linkCtrl [byteAt (at_ .link 10 fixture []) 3] = .ok (.lpf04 1 0 0) ∧
    (∃ t, exec .link (at_ .link 10 fixture []) = .next t) ∧
    13 ≤ (at_ .app 13 fixture []).flen ∧ decode .appFc [byteAt (at_ .app 13 fixture []) 12] = .ok .afc014 ∧
    ∃ t, exec .app (at_ .app 13 fixture []) = .next t :=
  ⟨by decide, ⟨_, rfl⟩, by decide, by decide, ⟨_, rfl⟩⟩

theorem witness_InstructionsNeverWriteTheBuffer : ∃ t, exec .validate (at_ .validate 10 fixture []) = .next t := ⟨_, rfl⟩

theorem witness_EachStageWritesOnlyItsOwnRegisters :
    (∃ t, exec .validate (at_ .validate 10 fixture []) = .next t ∧ (t.stage == .link) = true) ∧
    (∃ t, exec .link (at_ .link 10 fixture []) = .next t ∧ true = true) ∧
    (∃ t, exec .transport (at_ .transport 11 fixture []) = .next t ∧ (t.stage == .app) = true) ∧
    ∃ t, exec .app (at_ .app 13 fixture []) = .next t ∧ (t.result == .ok) = true :=
  ⟨next_of_nextIs (p := fun t => t.stage == .link) (by decide), next_of_nextIs (p := fun _ => true) (by decide),
    next_of_nextIs (p := fun t => t.stage == .app) (by decide), next_of_nextIs (p := fun t => t.result == .ok) (by decide)⟩

theorem witness_FailedOperationsLeaveNoRecord :
    (∃ t, exec .validate (at_ .validate 10 (fixtureWith 0 0xff) []) = .next t ∧
      (t.result == .notDnp3 && t.stage == .idle) = true) ∧
    (∃ t, exec .transport (at_ .transport 10 fixture []) = .next t ∧
      (t.result == .frameTooShort && t.stage == .idle) = true) ∧
    ∃ t, exec .app (at_ .app 12 fixture []) = .next t ∧ (t.result == .frameTooShort && t.stage == .idle) = true :=
  ⟨next_of_nextIs (p := fun t => t.result == .notDnp3 && t.stage == .idle) (by decide),
    next_of_nextIs (p := fun t => t.result == .frameTooShort && t.stage == .idle) (by decide),
    next_of_nextIs (p := fun t => t.result == .frameTooShort && t.stage == .idle) (by decide)⟩

theorem witness_StepIsExactlyTheStageOperation :
    (at_ .link 9 fixture []).host = [] ∧
    decode .stage [(at_ .link 9 fixture []).stage.code.setWidth 8] = .ok .link := by decide

theorem witness_StepRunsTheDecodedOperationAndItsRow :
    ((at_ .link 15 fixture []).host = [] ∧
      decode .stage [(at_ .link 15 fixture []).stage.code.setWidth 8] = .ok .link) ∧
    ((at_ .app 13 fixture [.quiet]).host = .quiet :: [] ∧
      decode .stage [(at_ .app 13 fixture [.quiet]).stage.code.setWidth 8] = .ok .app) ∧
    State.reset.host = [] ∧ State.reset.stage = .idle := by decide

theorem witness_CommandWritesRunStartOrNothing :
    (at_ .idle 15 fixture [.writeCmd 0xff]).host = .writeCmd 0xff :: [] ∧ (0xff : Byte) &&& 0x01 = 0x01 ∧
    (at_ .link 15 fixture [.writeCmd 0xfe]).host = .writeCmd 0xfe :: [] ∧ (0xfe : Byte) &&& 0x01 = 0x00 := by decide

theorem witness_StageMovesOnlyForward :
    (∃ t, step (at_ .app 13 fixture []) = .next t ∧ true = true) ∧
    (at_ .app 13 fixture []).host.head? ≠ some .reset ∧ (at_ .app 13 fixture []).host = [] ∧
    (∃ t, step (at_ .idle 13 fixture [.writeCmd 0x01]) = .next t ∧ (t.stage != .idle) = true) ∧
    (at_ .idle 13 fixture [.writeCmd 0x01]).stage = .idle :=
  ⟨next_of_nextIs (p := fun _ => true) (by decide), by decide, by decide,
    next_of_nextIs (p := fun t => t.stage != .idle) (by decide), by decide⟩

theorem witness_OnlyAppMakesAResultOk :
    (∃ t, step (at_ .app 13 fixture []) = .next t ∧ (t.result == .ok) = true) ∧
    (at_ .app 13 fixture []).result ≠ .ok :=
  ⟨next_of_nextIs (p := fun t => t.result == .ok) (by decide), by decide⟩

theorem witness_TheRecordStaysUntilStartOrReset :
    (at_ .idle 15 fixture [.writeByte 0 0]).stage = .idle ∧
    (∃ t, step (at_ .idle 15 fixture [.writeByte 0 0]) = .next t ∧ true = true) ∧
    (at_ .idle 15 fixture [.writeByte 0 0]).host.head? ≠ some .reset ∧
    ∀ w rest, (at_ .idle 15 fixture [.writeByte 0 0]).host = .writeCmd w :: rest → w &&& 0x01 = 0x00 :=
  ⟨rfl, next_of_nextIs (p := fun _ => true) (by decide), by decide, fun _ _ h => nomatch h⟩

theorem witness_ResetClearsAllButTheBuffer : (at_ .app 15 fixture [.reset]).host = .reset :: [] := rfl

theorem witness_HostByteWriteChangesOneByte :
    ((at_ .idle 15 fixture [.writeByte 0 1]).host = .writeByte 0 1 :: [] ∧
      (at_ .idle 15 fixture [.writeByte 0 1]).stage = .idle) ∧
    (at_ .app 15 fixture [.writeByte 13 1]).host = .writeByte 13 1 :: [] ∧ 13 ≤ 13 := by decide

theorem witness_HostLengthWriteIsBoundedByFbMax :
    ((at_ .idle 0 [] [.writeLen Config.fbMax]).host = .writeLen Config.fbMax :: [] ∧ Config.fbMax ≤ Config.fbMax) ∧
    (at_ .idle 0 [] [.writeLen (Config.fbMax + 1)]).host = .writeLen (Config.fbMax + 1) :: [] ∧
    Config.fbMax < Config.fbMax + 1 ∧ State.reset.stage = .idle :=
  ⟨⟨rfl, Nat.le_refl _⟩, rfl, Nat.lt_succ_self _, rfl⟩

theorem witness_ChangingTheBufferDuringATransactionIsRefused :
    (at_ .app 15 fixture []).stage ≠ .idle ∧
    ((at_ .app 15 fixture [.writeByte 12 0]).host = .writeByte 12 0 :: [] ∧ 12 < 13 ∧
      (at_ .app 15 fixture [.writeByte 12 0]).fb.read? 12 ≠ some 0) ∧
    (at_ .app 15 fixture [.writeLen 14]).host = .writeLen 14 :: [] ∧ 14 ≠ (at_ .app 15 fixture [.writeLen 14]).flen := by
  decide

theorem witness_AFrameIsReadOnlyAfterSuccess :
    { State.reset with result := .ok }.stage = .idle ∧ { State.reset with result := .ok }.result = .ok := by decide

/-- A state in LINK with FLEN at its least meets the invariant. -/
theorem inv_link : Inv (at_ .link 10 fixture []) := ⟨by decide, by decide, rfl, rfl, by decide, by decide, by decide⟩

/-- So does one at rest with FLEN at FB_MAX and a START to come. -/
theorem inv_rest : Inv (at_ .idle Config.fbMax fixture [.writeCmd 0x01]) :=
  ⟨by decide, Nat.le_refl _, nofun, fun _ => rfl⟩

theorem witness_EveryStepKeepsTheInvariant :
    (Inv (at_ .link 10 fixture []) ∧
      ∃ t, step (at_ .link 10 fixture []) = .next t ∧ (t.stage == .transport) = true) ∧
    Inv (at_ .idle Config.fbMax fixture [.writeCmd 0x01]) ∧
    ∃ t, step (at_ .idle Config.fbMax fixture [.writeCmd 0x01]) = .next t ∧ (t.stage == .validate) = true :=
  ⟨⟨inv_link, next_of_nextIs (p := fun t => t.stage == .transport) (by decide)⟩, inv_rest,
    next_of_nextIs (p := fun t => t.stage == .validate) (by decide)⟩

theorem witness_NoStepFaultsUnderTheInvariant :
    Inv (at_ .link 10 fixture []) ∧ Inv (at_ .idle Config.fbMax fixture [.writeCmd 0x01]) := ⟨inv_link, inv_rest⟩

theorem witness_EveryTransactionEndsWithinFourSteps :
    (Inv (at_ .link 10 fixture []) ∧ (at_ .link 10 fixture []).host = []) ∧
    Inv (at_ .validate 0 [] []) ∧ (at_ .validate 0 [] []).host = [] :=
  ⟨⟨inv_link, rfl⟩, ⟨rfl, Nat.zero_le _, rfl, rfl⟩, rfl⟩

/-- With HOST silent afterwards, and with a move of HOST to come. -/
theorem witness_StartAndFourStepsDecodeTheBuffer :
    (at_ .idle 13 fixture (startAndWait 0x01 [])).stage = .idle ∧ (0x01 : Byte) &&& 0x01 = 0x01 ∧
    (at_ .idle 13 fixture (startAndWait 0x01 [])).host = startAndWait 0x01 [] ∧
    (at_ .idle 13 fixture (startAndWait 0x81 [.reset])).host = startAndWait 0x81 [.reset] := by decide

theorem witness_StepsATransactionTakes :
    (at_ .idle 10 fixture [.writeCmd 0x01]).stage = .idle ∧
    (at_ .idle 10 fixture [.writeCmd 0x01]).host = [.writeCmd 0x01] ∧ (at_ .idle 9 fixture [.writeCmd 0x01]).flen < 10 ∧
    byteAt (at_ .idle 11 (fixtureWith 1 0) [.writeCmd 0x01]) 1 ≠ 0x64 ∧
    (at_ .idle 10 fixture [.writeCmd 0x01]).flen = 10 ∧ 11 ≤ (at_ .idle 11 fixture [.writeCmd 0x01]).flen ∧
    byteAt (at_ .idle 10 fixture [.writeCmd 0x01]) 0 = 0x05 ∧ byteAt (at_ .idle 11 fixture [.writeCmd 0x01]) 1 = 0x64 := by
  decide

theorem witness_ShortAndForeignBuffersWriteNoFields :
    (at_ .idle 9 fixture (startAndWait 0x01 [])).stage = .idle ∧ (0x01 : Byte) &&& 0x01 = 0x01 ∧
    (at_ .idle 9 fixture (startAndWait 0x01 [])).host = startAndWait 0x01 [] ∧
    (at_ .idle 9 fixture (startAndWait 0x01 [])).flen < 10 ∧
    (at_ .idle 10 (fixtureWith 0 0x04) (startAndWait 0x01 [])).stage = .idle ∧
    10 ≤ (at_ .idle 10 (fixtureWith 0 0x04) (startAndWait 0x01 [])).flen ∧
    byteAt (at_ .idle 10 (fixtureWith 0 0x04) (startAndWait 0x01 [])) 0 ≠ 0x05 ∧
    (at_ .idle 10 (fixtureWith 0 0x04) (startAndWait 0x01 [])).host = startAndWait 0x01 [] := by decide

/-- One buffer for each result. -/
theorem witness_ExactlyWhenEachResultEndsATransaction :
    (at_ .idle 13 fixture (startAndWait 0x01 [])).stage = .idle ∧ (0x01 : Byte) &&& 0x01 = 0x01 ∧
    (at_ .idle 13 fixture (startAndWait 0x01 [])).host = startAndWait 0x01 [] ∧
    (at_ .idle 12 fixture (startAndWait 0x01 [])).host = startAndWait 0x01 [] ∧
    (at_ .idle 12 (fixtureWith 1 0x65) (startAndWait 0x01 [])).host = startAndWait 0x01 [] := by decide

/-- Two states that differ beyond the bytes read: the old record, byte 13 and HOST's later moves. -/
theorem witness_EqualBuffersEndWithEqualResults :
    (at_ .idle 14 fixture (startAndWait 0x01 [])).stage = .idle ∧
    (at_ .idle 14 (fixtureWith 13 0) (startAndWait 0x81 [.reset])).stage = .idle ∧
    (0x01 : Byte) &&& 0x01 = 0x01 ∧ (0x81 : Byte) &&& 0x01 = 0x01 ∧
    (at_ .idle 14 fixture (startAndWait 0x01 [])).host = startAndWait 0x01 [] ∧
    (at_ .idle 14 (fixtureWith 13 0) (startAndWait 0x81 [.reset])).host = startAndWait 0x81 [.reset] ∧
    (at_ .idle 14 fixture (startAndWait 0x01 [])).flen = (at_ .idle 14 (fixtureWith 13 0) (startAndWait 0x81 [.reset])).flen ∧
    ∀ a, a < min (at_ .idle 14 fixture (startAndWait 0x01 [])).flen 13 →
      byteAt (at_ .idle 14 fixture (startAndWait 0x01 [])) a =
        byteAt (at_ .idle 14 (fixtureWith 13 0) (startAndWait 0x81 [.reset])) a := by decide

/-- Two buffers with the marker that differ at offsets 2, 8 and 9. -/
theorem witness_LengthAndCrcDecideNothing :
    (at_ .idle 13 fixture (startAndWait 0x01 [])).host = startAndWait 0x01 [] ∧
    (at_ .idle 13 (((fixture.set 2 0).set 8 0).set 9 0) (startAndWait 0x01 [])).host = startAndWait 0x01 [] ∧
    byteAt (at_ .idle 13 fixture (startAndWait 0x01 [])) 2 ≠
      byteAt (at_ .idle 13 (((fixture.set 2 0).set 8 0).set 9 0) (startAndWait 0x01 [])) 2 ∧
    ∀ a, a ≠ 2 → a ≠ 8 → a ≠ 9 →
      byteAt (at_ .idle 13 fixture (startAndWait 0x01 [])) a =
        byteAt (at_ .idle 13 (((fixture.set 2 0).set 8 0).set 9 0) (startAndWait 0x01 [])) a := by
  refine ⟨rfl, rfl, by decide, fun a h2 h8 h9 => ?_⟩
  have hlow : ∀ a < 15, a ≠ 2 → a ≠ 8 → a ≠ 9 →
      byteAt (at_ .idle 13 fixture (startAndWait 0x01 [])) a =
        byteAt (at_ .idle 13 (((fixture.set 2 0).set 8 0).set 9 0) (startAndWait 0x01 [])) a := by decide
  by_cases h : a < 15
  · exact hlow a h h2 h8 h9
  · have none_beyond : ∀ m : Memory, (∀ c ∈ m, c.1 < 15) → m.read? a = none := by
      intro m hm
      induction m with
      | nil => rfl
      | cons c m ih =>
        have hc := hm c (by simp)
        unfold Memory.read?
        rw [if_neg (by omega)]
        exact ih fun d hd => hm d (by simp [hd])
    unfold byteAt
    rw [none_beyond _ (by decide), none_beyond _ (by decide)]

theorem witness_WritingAFrameAndStartingDecodesIt :
    (at_ .idle 3 [0xff] (transactionScript fixture ++ [.reset])).stage = .idle ∧ fixture.length ≤ Config.fbMax ∧
    (at_ .idle 3 [0xff] (transactionScript fixture ++ [.reset])).host = transactionScript fixture ++ [.reset] := by decide

theorem witness_InstancesDoNotInteract :
    (∃ a, stepInstance 0 [at_ .link 15 fixture [], at_ .idle 13 fixture [.writeCmd 0x01]] = .next a) ∧
    (∃ b, stepInstance 1 [at_ .link 15 fixture [], at_ .idle 13 fixture [.writeCmd 0x01]] = .next b) ∧ 0 ≠ 1 :=
  ⟨⟨_, rfl⟩, ⟨_, rfl⟩, by decide⟩

/-- A build that names code 14 only: AFC_014 and AFC_UNASSIGNED with an unnamed code of the range both stand for a word. -/
theorem witness_DecodeOfEncodeInEveryBuild :
    Instr.afc014.wellFormedIn (fun c => c == 14) = true ∧
    (Instr.afcUnassigned 13).wellFormedIn (fun c => c == 14) = true ∧
    (Instr.afcUnassigned 131).wellFormedIn (fun c => c == 14) = true := by decide

theorem witness_ACodeSelectsANamedRowExactlyWhenItIsNamed :
    Space.linkCtrl ≠ .appFc ∧ inAppRange 33 = true ∧ defaultRoms.appNamed 33 = true := by decide

theorem witness_StepRunsTheRowTheBuildSelects :
    ((at_ .app 13 fixture []).host = [] ∧
      decode .stage [(at_ .app 13 fixture []).stage.code.setWidth 8] = .ok .app) ∧
    (at_ .link 10 fixture [.quiet]).host = .quiet :: [] ∧
    decode .stage [(at_ .link 10 fixture [.quiet]).stage.code.setWidth 8] = .ok .link := by decide

theorem witness_UnnamedCodesGetThePlaceholderAndSucceed :
    romNamed 34 = false ∧ romNamed 132 = false ∧ 13 ≤ (at_ .app 13 (fixtureWith 12 34) []).flen ∧
    byteAt (at_ .app 13 (fixtureWith 12 34) []) 12 = 34 := by decide

theorem witness_RewritingTheSameValueDuringATransactionIsTaken :
    ((at_ .link 15 fixture [.writeByte 12 0x0e]).host = .writeByte 12 0x0e :: [] ∧
      (at_ .link 15 fixture [.writeByte 12 0x0e]).fb.read? 12 = some 0x0e) ∧
    (at_ .link 15 fixture [.writeLen 15]).host = .writeLen (at_ .link 15 fixture [.writeLen 15]).flen :: [] ∧
    (at_ .link 15 fixture [.writeLen 15]).flen ≤ Config.fbMax := by decide

/-! ## A whole transaction -/

/-- V1 from reset, driven by HOST's moves: 15 bytes, FLEN, START and four steps. -/
theorem test_fixture_from_reset :
    nextIs (runSteps 21 { State.reset with host := transactionScript fixture }) (fun t =>
      t.stage == .idle && t.result == .ok && t.status == 0x08 && t.record.dlDst == 10 && t.record.dlCrc == 0x42fc &&
      t.record.linkText == "Unconfirmed User Data (4)" && t.record.trByte == 0xc0 && t.record.apCtrl == 0xc0 &&
      t.record.apFc == 14) = true := by decide

end Sys2Proof.Tests
end

section
/-! What the ROMs hold when their parameters are legal already: the constraints of R203 to R205, imposed where the ROMs
are read, then change nothing. -/

namespace Sys2Proof.Machine

/-- A legal name is stored as it stands (R203 to R205). -/
theorem namedEntry_of_tableName {t : String} (h : tableName t) : namedEntry t = ⟨1, t⟩ := by
  obtain ⟨hne, hph⟩ := h
  rw [namedEntry, legalName_of_legal hne hph]

/-- The primary indices whose name is a parameter: used, and not index 4, which the source names (R203). -/
theorem primaryUsed_of_parametric :
    ∀ i ∈ ([0, 1, 2, 3, 9, 14, 15] : List (BitVec 4)), i ≠ 4 ∧ primaryUsed i = true := by decide

theorem Roms.pri_of_used (r : Roms) {i : BitVec 4} (h4 : i ≠ 4) (hu : primaryUsed i = true) :
    Roms.pri r i = namedEntry (r.namePri i) := by
  rw [Roms.pri, if_neg h4, if_pos hu]

theorem Roms.sec_of_tableName (r : Roms) {i : BitVec 4} (h : tableName (r.nameSec i)) :
    Roms.sec r i = if r.secUsed i then ⟨1, r.nameSec i⟩ else ⟨0, placeholderText⟩ := by
  rw [Roms.sec, namedEntry_of_tableName h, LabelEntry.placeholder]

/-- Where APP_NAMED keeps to the two ranges at a code, the range test does nothing there (R205). -/
theorem Roms.named_of_inAppRange (r : Roms) {c : Byte} (h : r.appNamed c = true → inAppRange c = true) :
    Roms.named r c = r.appNamed c :=
  Bool.and_eq_right_iff_imp.2 h

theorem Roms.app_of_tableName (r : Roms) {c : Byte} (h : tableName (r.nameApp c))
    (hc : r.appNamed c = true → inAppRange c = true) :
    Roms.app r c = if r.appNamed c then ⟨1, r.nameApp c⟩ else ⟨0, placeholderText⟩ := by
  rw [Roms.app, Roms.named_of_inAppRange r hc, namedEntry_of_tableName h, LabelEntry.placeholder]

/-- Settles O12: the legal contents themselves are the parameters that give them; the reserved tables, which
nothing reads (R207), are arbitrary. -/
theorem everyLegalTableIsAnInstance : Obligations.EveryLegalTableIsAnInstance := by
  intro namePri nameSec nameApp secUsed appNamed hpri hsec happ hrange
  let r : Roms := { (default : Roms) with namePri, nameSec, nameApp, secUsed, appNamed }
  refine ⟨r, fun i hi => ?primary, fun i => ?secondary, fun c => ?application⟩
  case primary =>
    obtain ⟨h4, hused⟩ := primaryUsed_of_parametric i hi
    rw [Roms.pri_of_used r h4 hused, namedEntry_of_tableName (hpri i)]
  case secondary => exact Roms.sec_of_tableName r (hsec i)
  case application => exact Roms.app_of_tableName r (happ c) (hrange c)

end Sys2Proof.Machine
end

section
/-! Decoding what the encoder writes. The selection of a link row looks at PRM and FC alone (30_encoding.md R105), so the
row of a control byte made of field values is found without its other three bits. -/

namespace Sys2Proof

/-- DIR, FCB and FCV of a control byte made of field values are those values (R91, R101). -/
theorem withLinkBits_linkCtrlByte (row : Bit → Bit → Bit → Instr) (d p b v : Bit) (fc : BitVec 4) :
    withLinkBits row (linkCtrlByte d p b v fc) = row d b v := by
  have bits : ∀ (d p b v : Bit) (fc : BitVec 4), dlDirField.get (linkCtrlByte d p b v fc) = d ∧
      dlFcbField.get (linkCtrlByte d p b v fc) = b ∧ dlFcvField.get (linkCtrlByte d p b v fc) = v := by decide
  obtain ⟨hd, hb, hv⟩ := bits d p b v fc
  rw [withLinkBits, hd, hb, hv]

/-- A link row matches a control byte made of field values exactly when its pattern is the byte of PRM and FC alone. -/
theorem CodeRow.hits_linkCtrlByte {r : CodeRow} (hr : r ∈ linkRows) (d p b v : Bit) (fc : BitVec 4) :
    r.hits (linkCtrlByte d p b v fc) = (p.setWidth 8 <<< 6 ||| fc.setWidth 8 == r.pattern) := by
  have mask : ∀ r ∈ linkRows, r.mask = 0x4f := by decide
  rw [CodeRow.hits, mask r hr]
  exact congrArg (· == r.pattern) (Laws.linkCtrlByte_masked d p b v fc)

theorem findRow_linkCtrlByte (d p b v : Bit) (fc : BitVec 4) :
    findRow linkRows (linkCtrlByte d p b v fc) =
      (linkRows.find? fun r => p.setWidth 8 <<< 6 ||| fc.setWidth 8 == r.pattern).map
        fun r => r.make (linkCtrlByte d p b v fc) := by
  rw [findRow, List.find?_congr fun r hr => CodeRow.hits_linkCtrlByte hr d p b v fc]

/-- The control byte of a row's PRM and FC decodes to the row, whatever DIR, FCB and FCV are (R105, R208). -/
theorem decodeIn_linkCtrlByte (named : Byte → Bool) {row : Bit → Bit → Bit → Instr} {mask pattern : Byte} {p : Bit}
    {fc : BitVec 4} (h : (linkRows.find? fun r => p.setWidth 8 <<< 6 ||| fc.setWidth 8 == r.pattern) =
      some ⟨mask, pattern, withLinkBits row⟩) (d b v : Bit) :
    decodeIn named .linkCtrl [linkCtrlByte d p b v fc] = .ok (row d b v) := by
  rw [decodeIn, decodeLinkCtrl, findRow_linkCtrlByte, h]
  exact congrArg Decoded.ok (withLinkBits_linkCtrlByte row d p b v fc)

/-- A named code decodes to its named row (R105 c). -/
theorem decodeIn_namedCode {named : Byte → Bool} {f : Byte} {i : Instr} (hn : named f = true)
    (hi : findRow appRows f = some i) : decodeIn named .appFc [f] = .ok i := by
  rw [decodeIn, decodeAppFc, if_pos hn, hi, Option.getD_some]

/-- A code outside the two ranges or not named decodes to AFC_UNASSIGNED (R105 c, R279). -/
theorem decodeIn_unassigned {named : Byte → Bool} {code : Byte}
    (h : (Instr.afcUnassigned code).wellFormedIn named = true) :
    decodeIn named .appFc [code] = .ok (.afcUnassigned code) := by
  have hno : (inAppRange code && named code) = false := by simpa only [Instr.wellFormedIn, Bool.not_eq_true'] using h
  rcases Machine.decodeAppFc_cases named code with ⟨hyes, _⟩ | ⟨_, hd⟩
  · rw [hyes] at hno; cases hno
  · exact hd

/-- In every build, decoding the encoder's words gives the instruction back. -/
theorem decodeIn_encode (named : Byte → Bool) {i : Instr} (h : i.wellFormedIn named = true) :
    decodeIn named i.space (encode i) = .ok i := by
  cases i
  case start => rfl
  case validate => rfl
  case link => rfl
  case transport => rfl
  case app => rfl
  case afcUnassigned code => exact decodeIn_unassigned h
  all_goals first
    | exact decodeIn_linkCtrlByte named rfl _ _ _
    | exact decodeIn_namedCode h rfl

/-- Settles O1: the opcode table alone is the build that names every code of the two ranges. -/
theorem decodeOfEncodeIsTheInstruction : Obligations.DecodeOfEncodeIsTheInstruction :=
  fun _ h => decodeIn_encode inAppRange h

end Sys2Proof
end

section
/-! The fields of the header bytes as the bits the spec names (10_state.md R23), the start marker as two bytes, and what a
lookup can give. -/

namespace Sys2Proof

/-- Where the mask covers the field, EXTRACT is the slice of the byte (30_encoding.md R96). -/
theorem extract_eq_extractLsb' {w : Nat} {mask : Byte} {shift : Nat} (hm : ∀ j < w, mask.getLsbD (shift + j) = true)
    (b : Byte) : extract w b mask shift = b.extractLsb' shift w := by
  ext j hj
  simp [extract, hm j hj]

/-- BE16 by value (R99). -/
theorem be16_toNat (a b : Byte) : (be16 a b).toNat = 256 * a.toNat + b.toNat := by
  have ha := a.isLt
  have hb := b.isLt
  have hor : a.toNat <<< 8 ||| b.toNat = a.toNat <<< 8 + b.toNat := (Nat.shiftLeft_add_eq_or_of_lt hb _).symm
  simp only [be16, BitVec.toNat_or, BitVec.toNat_shiftLeft, BitVec.toNat_setWidth]
  rw [Nat.mod_eq_of_lt (by omega : a.toNat < 2 ^ 16), Nat.mod_eq_of_lt (by omega : b.toNat < 2 ^ 16),
    Nat.mod_eq_of_lt (by rw [Nat.shiftLeft_eq]; omega), hor, Nat.shiftLeft_eq]
  omega

/-- The start marker is the bytes 0x05 and 0x64 in this order (R99, 20_memory.md R62). -/
theorem be16_eq_startMarker_iff (a b : Byte) : be16 a b = startMarker ↔ a = 0x05 ∧ b = 0x64 := by
  constructor
  · intro h
    have hsum : 256 * a.toNat + b.toNat = 0x0564 := by rw [← be16_toNat, h]; rfl
    have hb := b.isLt
    exact ⟨BitVec.eq_of_toNat_eq (by simp; omega), BitVec.eq_of_toNat_eq (by simp; omega)⟩
  · rintro ⟨rfl, rfl⟩
    rfl

/-- Settles O4: the decoder, evaluated on each of the words. -/
theorem specWordsDecodeToTheirInstructions : Obligations.SpecWordsDecodeToTheirInstructions := by
  unfold Obligations.SpecWordsDecodeToTheirInstructions
  decide

end Sys2Proof

namespace Sys2Proof.Machine

/-! ## Flags -/

theorem dirOf_eq_bitAt (c : Byte) : dirOf c = bitAt c 7 := extract_eq_extractLsb' (by decide) c
theorem prmOf_eq_bitAt (c : Byte) : prmOf c = bitAt c 6 := extract_eq_extractLsb' (by decide) c
theorem fcbOf_eq_bitAt (c : Byte) : fcbOf c = bitAt c 5 := extract_eq_extractLsb' (by decide) c
theorem fcvOf_eq_bitAt (c : Byte) : fcvOf c = bitAt c 4 := extract_eq_extractLsb' (by decide) c
theorem fcOf_eq_slice (c : Byte) : fcOf c = c.extractLsb' 0 4 := extract_eq_extractLsb' (by decide) c
theorem trFinOf_eq_bitAt (t : Byte) : trFinOf t = bitAt t 7 := extract_eq_extractLsb' (by decide) t
theorem trFirOf_eq_bitAt (t : Byte) : trFirOf t = bitAt t 6 := extract_eq_extractLsb' (by decide) t
theorem trSeqOf_eq_slice (t : Byte) : trSeqOf t = t.extractLsb' 0 6 := extract_eq_extractLsb' (by decide) t
theorem apFirOf_eq_bitAt (a : Byte) : apFirOf a = bitAt a 7 := extract_eq_extractLsb' (by decide) a
theorem apFinOf_eq_bitAt (a : Byte) : apFinOf a = bitAt a 6 := extract_eq_extractLsb' (by decide) a
theorem apConOf_eq_bitAt (a : Byte) : apConOf a = bitAt a 5 := extract_eq_extractLsb' (by decide) a
theorem apUnsOf_eq_bitAt (a : Byte) : apUnsOf a = bitAt a 4 := extract_eq_extractLsb' (by decide) a
theorem apSeqOf_eq_slice (a : Byte) : apSeqOf a = a.extractLsb' 0 4 := extract_eq_extractLsb' (by decide) a

/-- Settles O6: each flag's mask of R97 covers exactly the bit R23, R91 or R93 names. -/
theorem flagsAreTheirNamedBits : Obligations.FlagsAreTheirNamedBits := fun b =>
  ⟨trFinOf_eq_bitAt b, trFirOf_eq_bitAt b, apFirOf_eq_bitAt b, apFinOf_eq_bitAt b, apConOf_eq_bitAt b,
    apUnsOf_eq_bitAt b, dirOf_eq_bitAt b, prmOf_eq_bitAt b, fcbOf_eq_bitAt b, fcvOf_eq_bitAt b, fcOf_eq_slice b⟩

/-! ## STATUS -/

/-- The fields of a byte made of a 2-bit code above a 3-bit code (R35). -/
theorem statusByte_fields : ∀ (r : BitVec 2) (c : BitVec 3),
    (r.setWidth 8 <<< 3 ||| c.setWidth 8).extractLsb' 0 3 = c ∧
    (r.setWidth 8 <<< 3 ||| c.setWidth 8).extractLsb' 3 2 = r ∧
    (r.setWidth 8 <<< 3 ||| c.setWidth 8).extractLsb' 5 3 = (0 : BitVec 3) := by decide

theorem State.busy_iff (s : State) : s.busy = true ↔ s.stage ≠ .idle := by simp [State.busy]

theorem State.done_iff (s : State) : s.done = true ↔ s.stage = .idle ∧ s.result ≠ .none := by simp [State.done]

theorem State.recValid_iff (s : State) : s.recValid = true ↔ s.result = .ok := by simp [State.recValid]

/-- Settles O41, from the fields of the STATUS byte and the three views. -/
theorem statusShowsStageAndResult : Obligations.StatusShowsStageAndResult := by
  intro s
  obtain ⟨hstage, hresult, hzero⟩ := statusByte_fields s.result.code s.stage.code
  exact ⟨hstage, hresult, hzero, s.busy_iff, s.done_iff, s.recValid_iff⟩

/-- Settles O37: State.reset is written with the values R41 states. -/
theorem resetStateHoldsTheResetValues : Obligations.ResetStateHoldsTheResetValues := by
  refine ⟨rfl, rfl, rfl, rfl, rfl, ?numeric, rfl, rfl⟩
  case numeric => decide

/-! ## Lookups -/

theorem lresolve_primary (fc : BitVec 4) : lresolve 1 fc = romPri fc := rfl

theorem lresolve_secondary (fc : BitVec 4) : lresolve 0 fc = romSec fc := rfl

/-- An entry with a name is not the cleared label, whose name is empty (R27). -/
theorem ne_null_of_name_ne_empty {e : LabelEntry} (h : e.name ≠ "") : e ≠ LabelEntry.null ∧ e.name ≠ "" :=
  ⟨fun hn => h (congrArg LabelEntry.name hn), h⟩

theorem lresolve_name_ne_empty (prm : Bit) (fc : BitVec 4) : (lresolve prm fc).name ≠ "" := by
  rcases lresolve_cases prm fc with ⟨t, ht, hne, _⟩ | hp
  · rw [ht]; exact hne
  · rw [hp]; decide

theorem aresolve_name_ne_empty (f : Byte) : (aresolve f).name ≠ "" := by
  rcases aresolve_cases f with ⟨_, t, ht, hne, _⟩ | hp
  · rw [ht]; exact hne
  · rw [hp]; decide

/-- Settles O13: every lookup gives a named entry or the placeholder, and both have a name. -/
theorem lookupsReadOneTableAndNeverGiveTheNullLabel : Obligations.LookupsReadOneTableAndNeverGiveTheNullLabel :=
  ⟨fun fc => ⟨lresolve_primary fc, lresolve_secondary fc⟩,
    fun prm fc => ne_null_of_name_ne_empty (lresolve_name_ne_empty prm fc),
    fun f => ne_null_of_name_ne_empty (aresolve_name_ne_empty f)⟩

end Sys2Proof.Machine
end

section
/-! What the five operations can do, one lemma each, with the record they write as a function of the buffer. -/

namespace Sys2Proof.Machine

/-- The record LINK writes: the twelve link registers read from offsets 0 to 9 (41_link.md R140). -/
def State.linkedRecord (s : State) : Record :=
  s.record.withLink (be16 (byteAt s 0) (byteAt s 1)) (byteAt s 2) (byteAt s 3) (le16 (byteAt s 4) (byteAt s 5))
    (le16 (byteAt s 6) (byteAt s 7)) (le16 (byteAt s 8) (byteAt s 9))

/-- The record TRANSPORT writes: the four transport registers read from offset 10 (42_transport.md R160). -/
def State.transportedRecord (s : State) : Record := s.record.withTransport (byteAt s 10)

/-- The record APP writes: the eight application registers read from offsets 11 and 12 (43_application.md R170). -/
def State.applicationRecord (s : State) : Record := s.record.withApp (byteAt s 11) (byteAt s 12)

/-- START is accepted in IDLE only (45_control.md R301). -/
theorem exec_start_cases (s : State) :
    (s.stage = .idle ∧ exec .start s = .next (((s.clearRecord).setResult .none).setStage .validate)) ∨
      (s.stage ≠ .idle ∧ exec .start s = .next s) := by
  by_cases hs : s.stage = .idle
  · exact .inl ⟨hs, if_pos hs⟩
  · exact .inr ⟨hs, if_neg hs⟩

/-- VALIDATE: the length test comes before the marker test (40_validate.md R130). -/
theorem exec_validate_short {s : State} (hn : s.flen < 10) :
    exec .validate s = .next (s.raiseFailure .frameTooShort) := if_pos hn

theorem exec_validate_long {s : State} (hn : 10 ≤ s.flen) :
    exec .validate s = if be16 (byteAt s 0) (byteAt s 1) ≠ startMarker then .next (s.raiseFailure .notDnp3)
      else .next (s.setStage .link) :=
  (if_neg (Nat.not_lt.2 hn)).trans (withHalfBE_of_lt (by omega) _)

theorem exec_validate_cases (s : State) :
    (s.flen < 10 ∧ exec .validate s = .next (s.raiseFailure .frameTooShort)) ∨
      (10 ≤ s.flen ∧ be16 (byteAt s 0) (byteAt s 1) ≠ startMarker ∧
        exec .validate s = .next (s.raiseFailure .notDnp3)) ∨
      (10 ≤ s.flen ∧ be16 (byteAt s 0) (byteAt s 1) = startMarker ∧ exec .validate s = .next (s.setStage .link)) := by
  rcases Nat.lt_or_ge s.flen 10 with hn | hn
  · exact .inl ⟨hn, exec_validate_short hn⟩
  · by_cases hm : be16 (byteAt s 0) (byteAt s 1) = startMarker
    · exact .inr (.inr ⟨hn, hm, (exec_validate_long hn).trans (if_neg (not_not.2 hm))⟩)
    · exact .inr (.inl ⟨hn, hm, (exec_validate_long hn).trans (if_pos hm)⟩)

/-- LINK tests nothing; that it answers a next state says that its reads were inside the buffer (20_memory.md R66). -/
theorem exec_link_next {s t : State} (h : exec .link s = .next t) :
    10 ≤ s.flen ∧ t = (s.setRecord s.linkedRecord).setStage .transport := by
  change execLink s = .next t at h
  unfold execLink at h
  obtain ⟨_, hlen⟩ := withHalfBE_next h
  obtain ⟨_, hctrl⟩ := withByte_next hlen
  obtain ⟨_, hdst⟩ := withByte_next hctrl
  obtain ⟨_, hsrc⟩ := withHalfLE_next hdst
  obtain ⟨_, hcrc⟩ := withHalfLE_next hsrc
  obtain ⟨hn, hend⟩ := withHalfLE_next hcrc
  cases hend
  exact ⟨hn, rfl⟩

/-- TRANSPORT: the length guard, then the transport byte (42_transport.md R160, R161). -/
theorem exec_transport_cases (s : State) :
    (s.flen < 11 ∧ exec .transport s = .next (s.raiseFailure .frameTooShort)) ∨
      (11 ≤ s.flen ∧ exec .transport s = .next ((s.setRecord s.transportedRecord).setStage .app)) := by
  rcases Nat.lt_or_ge s.flen 11 with hn | hn
  · exact .inl ⟨hn, if_pos hn⟩
  · exact .inr ⟨hn, (if_neg (Nat.not_lt.2 hn)).trans (withByte_of_lt hn _)⟩

/-- APP: one length test, then the two header bytes (43_application.md R170). -/
theorem exec_app_cases (s : State) :
    (s.flen < 13 ∧ exec .app s = .next (s.raiseFailure .frameTooShort)) ∨
      (13 ≤ s.flen ∧
        exec .app s = .next (((s.setRecord s.applicationRecord).setResult .ok).setStage .idle)) := by
  rcases Nat.lt_or_ge s.flen 13 with hn | hn
  · exact .inl ⟨hn, if_pos hn⟩
  · exact .inr ⟨hn, (if_neg (Nat.not_lt.2 hn)).trans
      ((withByte_of_lt (by omega) _).trans (withByte_of_lt hn _))⟩

theorem Failure.result_ne_ok (k : Failure) : k.result ≠ .ok := by cases k <;> decide

/-- Settles O28: a passing operation's next state is the one its case lemma gives, and a failing one is at rest with a
failure for its RESULT. -/
theorem eachStageWritesOnlyItsOwnRegisters : Obligations.EachStageWritesOnlyItsOwnRegisters := by
  intro s t
  refine ⟨fun h hstage => ?validate, fun h => ?link, fun h hstage => ?transport, fun h hok => ?app⟩
  case validate =>
    rcases exec_validate_cases s with ⟨_, he⟩ | ⟨_, _, he⟩ | ⟨_, _, he⟩ <;> cases he.symm.trans h
    · cases hstage
    · cases hstage
    · exact ⟨rfl, rfl⟩
  case link =>
    obtain ⟨_, rfl⟩ := exec_link_next h
    exact ⟨_, _, _, _, _, _, rfl, rfl⟩
  case transport =>
    rcases exec_transport_cases s with ⟨_, he⟩ | ⟨_, he⟩ <;> cases he.symm.trans h
    · cases hstage
    · exact ⟨_, rfl, rfl⟩
  case app =>
    rcases exec_app_cases s with ⟨_, he⟩ | ⟨_, he⟩ <;> cases he.symm.trans h
    · exact absurd hok (Failure.result_ne_ok .frameTooShort)
    · exact ⟨_, _, rfl⟩

end Sys2Proof.Machine
end

section
/-! The code row that a step runs after LINK or APP writes the label that the operation has written already
(44_code_tables.md R208; log 2). So PARSER's step is the operation STAGE names, and `ParserEffect` says once what it can
do. -/

namespace Sys2Proof.Machine

/-! ## The row selected in LINK and in APP -/

/-- A link row's word is the control byte of some PRM and FC, whose entry the row writes. -/
theorem linkRow_word {i : Instr} (hs : i.space = .linkCtrl) :
    ∃ d p b v fc, encode i = [linkCtrlByte d p b v fc] ∧ ∀ s, exec i s = writeLinkLabel p fc s := by
  cases i
  all_goals first
    | exact ⟨_, _, _, _, _, rfl, fun _ => rfl⟩
    | (simp [Instr.space] at hs)

theorem prmOf_fcOf_linkCtrlByte : ∀ (d p b v : Bit) (fc : BitVec 4),
    prmOf (linkCtrlByte d p b v fc) = p ∧ fcOf (linkCtrlByte d p b v fc) = fc := by decide

/-- Every control byte selects a link row, whose word it is (30_encoding.md R106). -/
theorem findRow_linkRows (c : Byte) : ∃ i, findRow linkRows c = some i ∧ i.space = .linkCtrl ∧ encode i = [c] := by
  have rows : ∀ c : Byte, (findRow linkRows c).any
      (fun i => decide (i.space = .linkCtrl ∧ encode i = [c])) = true := by decide
  obtain ⟨i, hi, hw⟩ := (Option.any_eq_true _ _).1 (rows c)
  exact ⟨i, hi, of_decide_eq_true hw⟩

/-- The row a control byte selects writes what LRESOLVE gives for the byte's PRM and FC. -/
theorem decode_linkCtrl (c : Byte) : ∃ row, decode .linkCtrl [c] = .ok row ∧
    ∀ s, exec row s = .next (s.setDlLbl (lresolve (prmOf c) (fcOf c))) := by
  obtain ⟨row, hrow, hs, he⟩ := findRow_linkRows c
  obtain ⟨d, p, b, v, fc, hw, hexec⟩ := linkRow_word hs
  obtain rfl : c = linkCtrlByte d p b v fc := by simpa using he.symm.trans hw
  obtain ⟨hp, hf⟩ := prmOf_fcOf_linkCtrlByte d p b v fc
  refine ⟨row, ?_, fun s => ?_⟩
  · rw [decode, decodeIn, decodeLinkCtrl, hrow]
  · rw [hp, hf, hexec s, writeLinkLabel_eq]

/-- The row a function byte selects writes what ARESOLVE gives for the byte. -/
theorem decode_appFc (f : Byte) : ∃ row, decode .appFc [f] = .ok row ∧
    ∀ s, exec row s = .next (s.setApLbl (aresolve f)) := by
  have hrow : ∃ row, decode .appFc [f] = .ok row := by
    rcases decodeAppFc_cases inAppRange f with ⟨_, i, _, hd⟩ | ⟨_, hd⟩
    · exact ⟨i, hd⟩
    · exact ⟨_, hd⟩
  obtain ⟨row, hd⟩ := hrow
  exact ⟨row, hd, exec_selected inAppRange_of_romNamed hd⟩

theorem State.setDlLbl_self {s : State} {e : LabelEntry} (h : s.record.dlLbl = e) : s.setDlLbl e = s := by
  subst h; rfl

theorem State.setApLbl_self {s : State} {e : LabelEntry} (h : s.record.apLbl = e) : s.setApLbl e = s := by
  subst h; rfl

/-! ## PARSER's step is the operation STAGE names -/

theorem fetchStage_validate {s : State} (h : s.stage = .validate) : fetchStage s = [.validate] := by
  rw [fetchStage, h]; rfl

theorem fetchStage_link {s : State} (h : s.stage = .link) : fetchStage s = [.link] := by
  rw [fetchStage, h]; rfl

theorem fetchStage_transport {s : State} (h : s.stage = .transport) : fetchStage s = [.transport] := by
  rw [fetchStage, h]; rfl

theorem fetchStage_app {s : State} (h : s.stage = .app) : fetchStage s = [.app] := by
  rw [fetchStage, h]; rfl

theorem fetchRow_validate {s : State} (h : s.stage = .validate) : fetchRow s = [] := by
  simp only [fetchRow, rowIn, h]

theorem fetchRow_transport {s : State} (h : s.stage = .transport) : fetchRow s = [] := by
  simp only [fetchRow, rowIn, h]

theorem fetchRow_link {s : State} {row : Instr} (h : s.stage = .link) (hn : 3 < s.flen)
    (hd : decode .linkCtrl [byteAt s 3] = .ok row) : fetchRow s = [row] := by
  rw [decode] at hd
  simp only [fetchRow, rowIn, h, if_pos hn, hd]; rfl

theorem fetchRow_app {s : State} {row : Instr} (h : s.stage = .app) (hn : 13 ≤ s.flen)
    (hd : decode .appFc [byteAt s 12] = .ok row) : fetchRow s = [row] := by
  rw [decode] at hd
  simp only [fetchRow, rowIn, h, minApp, if_pos hn, hd]; rfl

/-- Below 13 bytes APP raises, and no row is selected (log 2). -/
theorem fetchRow_app_short {s : State} (h : s.stage = .app) (hn : s.flen < 13) : fetchRow s = [] := by
  simp only [fetchRow, rowIn, h]; exact if_neg (Nat.not_le.2 hn)

/-- A second instruction that changes nothing after the first leaves the first alone. -/
theorem runAll_pair_of_self {i row : Instr} {s t : State} (he : exec i s = .next t) (hr : exec row t = .next t) :
    runAll [i, row] s = exec i s := by
  rw [runAll_cons_next he, runAll_singleton, hr, he]

theorem parserStep_validate {s : State} (h : s.stage = .validate) : parserStep s = exec .validate s := by
  rw [parserStep, fetch, fetchStage_validate h, fetchRow_validate h]
  exact runAll_singleton _ _

theorem parserStep_transport {s : State} (h : s.stage = .transport) : parserStep s = exec .transport s := by
  rw [parserStep, fetch, fetchStage_transport h, fetchRow_transport h]
  exact runAll_singleton _ _

theorem parserStep_link {s : State} (h : s.stage = .link) : parserStep s = exec .link s := by
  rw [parserStep, fetch, fetchStage_link h, List.singleton_append]
  cases he : exec .link s with
  | fault r => exact runAll_cons_fault he _
  | refused r => exact runAll_cons_refused he _
  | next t =>
    obtain ⟨hn, rfl⟩ := exec_link_next he
    obtain ⟨row, hd, hrow⟩ := decode_linkCtrl (byteAt s 3)
    rw [fetchRow_link h (by omega) hd, ← he]
    exact runAll_pair_of_self he ((hrow _).trans (congrArg _ (State.setDlLbl_self rfl)))

theorem parserStep_app {s : State} (h : s.stage = .app) : parserStep s = exec .app s := by
  rw [parserStep, fetch, fetchStage_app h, List.singleton_append]
  rcases exec_app_cases s with ⟨hn, he⟩ | ⟨hn, he⟩
  · rw [fetchRow_app_short h hn, runAll_singleton]
  · obtain ⟨row, hd, hrow⟩ := decode_appFc (byteAt s 12)
    rw [fetchRow_app h hn hd]
    exact runAll_pair_of_self he ((hrow _).trans (congrArg _ (State.setApLbl_self rfl)))

/-! ## What PARSER's step can do -/

/-- The next states of PARSER's step (45_control.md R302 to R306), with the length and marker tests that lead to each. -/
inductive ParserEffect (s : State) : State → Prop
  | rests (hs : s.stage = .idle) : ParserEffect s s
  | validateShort (hs : s.stage = .validate) (hn : s.flen < 10) : ParserEffect s (s.raiseFailure .frameTooShort)
  | validateForeign (hs : s.stage = .validate) (hn : 10 ≤ s.flen)
      (hm : be16 (byteAt s 0) (byteAt s 1) ≠ startMarker) : ParserEffect s (s.raiseFailure .notDnp3)
  | validated (hs : s.stage = .validate) (hn : 10 ≤ s.flen)
      (hm : be16 (byteAt s 0) (byteAt s 1) = startMarker) : ParserEffect s (s.setStage .link)
  | linked (hs : s.stage = .link) (hn : 10 ≤ s.flen) :
      ParserEffect s ((s.setRecord s.linkedRecord).setStage .transport)
  | transportShort (hs : s.stage = .transport) (hn : s.flen < 11) : ParserEffect s (s.raiseFailure .frameTooShort)
  | transported (hs : s.stage = .transport) (hn : 11 ≤ s.flen) :
      ParserEffect s ((s.setRecord s.transportedRecord).setStage .app)
  | appShort (hs : s.stage = .app) (hn : s.flen < 13) : ParserEffect s (s.raiseFailure .frameTooShort)
  | finished (hs : s.stage = .app) (hn : 13 ≤ s.flen) :
      ParserEffect s (((s.setRecord s.applicationRecord).setResult .ok).setStage .idle)

theorem parserStep_effect {s t : State} (h : parserStep s = .next t) : ParserEffect s t := by
  cases hs : s.stage with
  | idle =>
    cases (parserStep_idle hs).symm.trans h
    exact .rests hs
  | validate =>
    rw [parserStep_validate hs] at h
    rcases exec_validate_cases s with ⟨hn, he⟩ | ⟨hn, hm, he⟩ | ⟨hn, hm, he⟩ <;> cases he.symm.trans h
    · exact .validateShort hs hn
    · exact .validateForeign hs hn hm
    · exact .validated hs hn hm
  | link =>
    rw [parserStep_link hs] at h
    obtain ⟨hn, rfl⟩ := exec_link_next h
    exact .linked hs hn
  | transport =>
    rw [parserStep_transport hs] at h
    rcases exec_transport_cases s with ⟨hn, he⟩ | ⟨hn, he⟩ <;> cases he.symm.trans h
    · exact .transportShort hs hn
    · exact .transported hs hn
  | app =>
    rw [parserStep_app hs] at h
    rcases exec_app_cases s with ⟨hn, he⟩ | ⟨hn, he⟩ <;> cases he.symm.trans h
    · exact .appShort hs hn
    · exact .finished hs hn

namespace ParserEffect

variable {s t : State}

theorem frame (h : ParserEffect s t) : t.fb = s.fb ∧ t.flen = s.flen ∧ t.host = s.host := by
  cases h <;> exact ⟨rfl, rfl, rfl⟩

/-- In IDLE PARSER rests (log 4). -/
theorem eq_of_idle (h : ParserEffect s t) (hs : s.stage = .idle) : t = s := by
  cases h with
  | rests => rfl
  | _ => exact Stage.noConfusion (hs.symm.trans ‹_›)

/-- Every effect moves STAGE as 10_state.md R31 allows. -/
theorem stageMoves (h : ParserEffect s t) : stageMoves s.stage t.stage := by
  cases h <;> simp [Machine.stageMoves, *]

/-- RESULT becomes OK at the end of APP alone. -/
theorem result_ok (h : ParserEffect s t) (ht : t.result = .ok) : s.result = .ok ∨ s.stage = .app ∧ 13 ≤ s.flen := by
  cases h with
  | rests => exact .inl ht
  | validated => exact .inl ht
  | linked => exact .inl ht
  | transported => exact .inl ht
  | finished hs hn => exact .inr ⟨hs, hn⟩
  | validateForeign => exact absurd ht (Failure.result_ne_ok .notDnp3)
  | validateShort | transportShort | appShort => exact absurd ht (Failure.result_ne_ok .frameTooShort)

end ParserEffect

end Sys2Proof.Machine
end

section
/-! HOST's moves and one step of the machine: an equation for each move, and `StepEffect`, which says once what a step can
do. The statements about every step are read off its cases. -/

namespace Sys2Proof.Machine

/-! ## HOST's writes -/

/-- A write to CMD with bit 0 set fetches START, whatever the other bits are (10_state.md R33). -/
theorem fetchCommand_start {w : Byte} (h : w &&& 0x01 = 0x01) : fetchCommand w = [.start] := by
  rw [fetchCommand, decode, decodeIn, decodeCmd, if_pos h]; rfl

theorem fetchCommand_none {w : Byte} (h : w &&& 0x01 ≠ 0x01) : fetchCommand w = [] := by
  rw [fetchCommand, decode, decodeIn, decodeCmd, if_neg h]; rfl

/-- Settles O31, from the command the write fetches. -/
theorem commandWritesRunStartOrNothing : Obligations.CommandWritesRunStartOrNothing := by
  intro s w rest hm
  rw [step_of_host_cons hm]
  constructor
  · intro hw
    rw [applyMove, fetchCommand_start hw, runAll_singleton]
  · intro hw
    rw [applyMove, fetchCommand_none (by rw [hw]; decide), runAll_nil]

/-- The byte written is the one that stands there, whatever else of the state changes with it. -/
theorem byteAt_write_self {s t : State} {a : Nat} {b : Byte} (h : t.fb = s.fb.write a b) : byteAt t a = b :=
  byteAt_of_read (by rw [h, Memory.read?_write_self])

theorem byteAt_write_other {s t : State} {a a' : Nat} {b : Byte} (h : t.fb = s.fb.write a b) (ha : a' ≠ a) :
    byteAt t a' = byteAt s a' := by
  rw [byteAt, byteAt, h, Memory.read?_write_other _ _ ha]

/-- Settles O38: in IDLE, or at an offset PARSER does not read, the write is taken. -/
theorem hostByteWriteChangesOneByte : Obligations.HostByteWriteChangesOneByte := by
  intro s a b rest hm hfree
  have htaken : step s = .next { s with host := rest, fb := s.fb.write a b } := by
    rw [step_of_host_cons hm]
    rcases hostWriteByte_cases (a := a) (b := b) (s := { s with host := rest }) with ⟨h, _⟩ | ⟨_, hbusy, hlow, _⟩
    · exact h
    · exact hfree.elim (fun hidle => absurd hidle hbusy) (fun hhigh => absurd hlow (Nat.not_lt.2 hhigh))
  exact ⟨_, htaken, byteAt_write_self rfl, fun a' ha => byteAt_write_other rfl ha, rfl, rfl, rfl, rfl, rfl⟩

theorem hostWriteLen_idle {s : State} (hs : s.stage = .idle) (n : Nat) :
    hostWriteLen n s = if Config.fbMax < n then .refused .lengthBeyondMax else .next { s with flen := n } := by
  simp [hostWriteLen, State.busy, hs]

/-- Settles O39: in IDLE the bound FB_MAX is the write's only test. -/
theorem hostLengthWriteIsBoundedByFbMax : Obligations.HostLengthWriteIsBoundedByFbMax := by
  intro s n rest hm hs
  rw [step_of_host_cons hm, applyMove, hostWriteLen_idle (s := { s with host := rest }) hs]
  exact ⟨fun hn => if_neg (Nat.not_lt.2 hn), fun hn => if_pos hn⟩

/-! ## What one step can do -/

/-- The state a step's move acts on: HOST's oldest move is off the list. -/
def State.afterMove (s : State) : State := { s with host := s.host.tail }

@[simp] theorem State.afterMove_record (s : State) : s.afterMove.record = s.record := rfl
@[simp] theorem State.afterMove_stage (s : State) : s.afterMove.stage = s.stage := rfl
@[simp] theorem State.afterMove_result (s : State) : s.afterMove.result = s.result := rfl
@[simp] theorem State.afterMove_flen (s : State) : s.afterMove.flen = s.flen := rfl
@[simp] theorem State.afterMove_fb (s : State) : s.afterMove.fb = s.fb := rfl

theorem State.afterMove_nil {s : State} (h : s.host = []) : s.afterMove = s := by
  obtain ⟨record, stage, result, flen, fb, host⟩ := s
  subst h; rfl

theorem step_of_head {s : State} {m : HostMove} (h : s.host.head? = some m) : step s = applyMove m s.afterMove := by
  obtain ⟨rest, hm⟩ := List.head?_eq_some_iff.1 h
  rw [step_of_host_cons hm, State.afterMove, hm, List.tail_cons]

/-- The next states of a step, with the move of HOST and the tests that lead to each. -/
inductive StepEffect (s : State) : State → Prop
  /-- HOST is silent or makes a quiet move, and PARSER steps. -/
  | parser {t : State} (hm : s.host.head? = none ∨ s.host.head? = some .quiet) (h : ParserEffect s.afterMove t) :
      StepEffect s t
  | wroteByte {a : Nat} {b : Byte} (hm : s.host.head? = some (.writeByte a b))
      (hfree : ¬ (s.stage ≠ .idle ∧ a < 13 ∧ s.fb.read? a ≠ some b)) :
      StepEffect s { s.afterMove with fb := s.fb.write a b }
  | wroteLen {n : Nat} (hm : s.host.head? = some (.writeLen n)) (hmax : n ≤ Config.fbMax)
      (hfree : s.stage = .idle ∨ n = s.flen) : StepEffect s { s.afterMove with flen := n }
  /-- An accepted START. -/
  | started {w : Byte} (hm : s.host.head? = some (.writeCmd w)) (hw : w &&& 0x01 = 0x01) (hs : s.stage = .idle) :
      StepEffect s (((s.afterMove.clearRecord).setResult .none).setStage .validate)
  /-- A write to CMD without START, or START while a transaction runs. -/
  | ignored {w : Byte} (hm : s.host.head? = some (.writeCmd w)) (h : w &&& 0x01 ≠ 0x01 ∨ s.stage ≠ .idle) :
      StepEffect s s.afterMove
  | reset (hm : s.host.head? = some .reset) :
      StepEffect s { s.afterMove with record := Record.cleared, result := .none, stage := .idle }

/-- What a write to CMD can do. -/
theorem writeCmd_effect {s t : State} {w : Byte} (hm : s.host.head? = some (.writeCmd w))
    (h : runAll (fetchCommand w) s.afterMove = .next t) : StepEffect s t := by
  by_cases hw : w &&& 0x01 = 0x01
  · rw [fetchCommand_start hw, runAll_singleton] at h
    rcases exec_start_cases s.afterMove with ⟨hs, he⟩ | ⟨hs, he⟩ <;> cases he.symm.trans h
    · exact .started hm hw hs
    · exact .ignored hm (.inr hs)
  · rw [fetchCommand_none hw, runAll_nil] at h
    cases h
    exact .ignored hm (.inl hw)

theorem step_effect {s t : State} (h : step s = .next t) : StepEffect s t := by
  cases hm : s.host.head? with
  | none =>
    have hnil := List.head?_eq_none_iff.1 hm
    rw [step_of_host_nil hnil] at h
    have hp := parserStep_effect h
    rw [← State.afterMove_nil hnil] at hp
    exact .parser (.inl hm) hp
  | some m =>
    rw [step_of_head hm] at h
    cases m with
    | quiet => exact .parser (.inr hm) (parserStep_effect h)
    | writeByte a b =>
      rcases hostWriteByte_cases (a := a) (b := b) (s := s.afterMove) with ⟨he, hfree⟩ | ⟨he, _⟩ <;>
        cases he.symm.trans h
      exact .wroteByte hm hfree
    | writeLen n =>
      obtain ⟨rfl, hmax, hfree⟩ := hostWriteLen_next h
      exact .wroteLen hm hmax hfree
    | writeCmd w => exact writeCmd_effect hm h
    | reset =>
      cases (hostReset_eq s.afterMove).symm.trans h
      exact .reset hm

/-! ## What every step keeps -/

/-- Settles O33: PARSER moves STAGE as R31 allows, HOST's writes leave it, and in IDLE PARSER rests. -/
theorem stageMovesOnlyForward : Obligations.StageMovesOnlyForward := by
  intro s t h hreset
  refine ⟨?moves, fun hnil => ?silent, fun hidle hleft => ?leaves⟩
  case moves =>
    cases step_effect h with
    | parser _ hp => exact .inr hp.stageMoves
    | wroteByte | wroteLen | ignored => exact .inl rfl
    | started _ _ hs => rw [hs]; exact .inr (.inr rfl)
    | reset hm => exact absurd hm hreset
  case silent =>
    rw [step_of_host_nil hnil] at h
    exact (parserStep_effect h).stageMoves
  case leaves =>
    cases step_effect h with
    | parser _ hp => rw [hp.eq_of_idle hidle] at hleft; exact absurd hidle hleft
    | wroteByte | wroteLen | ignored => exact absurd hidle hleft
    | started hm hw =>
      obtain ⟨rest, hhost⟩ := List.head?_eq_some_iff.1 hm
      exact ⟨rfl, _, rest, hhost, hw⟩
    | reset hm => exact absurd hm hreset

/-- Settles O34: of all the effects of a step only the end of APP gives RESULT the value OK. -/
theorem onlyAppMakesAResultOk : Obligations.OnlyAppMakesAResultOk := by
  intro s t h hbefore hok
  cases step_effect h with
  | parser _ hp => exact (hp.result_ok hok).resolve_left hbefore
  | wroteByte | wroteLen | ignored => exact absurd hok hbefore
  | started | reset => cases hok

/-- Settles O35: in IDLE PARSER rests, and HOST's other moves write no register but FLEN. -/
theorem theRecordStaysUntilStartOrReset : Obligations.TheRecordStaysUntilStartOrReset := by
  intro s t hidle h hreset hcmd
  cases step_effect h with
  | parser _ hp => rw [hp.eq_of_idle hidle]; exact ⟨rfl, rfl, hidle⟩
  | wroteByte | wroteLen | ignored => exact ⟨rfl, rfl, hidle⟩
  | started hm hw =>
    obtain ⟨rest, hhost⟩ := List.head?_eq_some_iff.1 hm
    exact absurd ((hcmd _ rest hhost).symm.trans hw) (by decide)
  | reset hm => exact absurd hm hreset

end Sys2Proof.Machine
end

section
/-! The invariant. Its part for each stage, what the stage operations establish of R26, and that no effect of a step breaks
it. -/

namespace Sys2Proof.Machine

/-! ## The stage's part -/

theorem stageInvariant_idle {s : State} (h : s.stage = .idle) : stageInvariant s ↔
    (s.result = .ok → s.record.consistent) ∧ (s.result ≠ .ok → s.record = Record.cleared) := by
  rw [stageInvariant, h]

theorem stageInvariant_validate {s : State} (h : s.stage = .validate) : stageInvariant s ↔
    s.result = .none ∧ s.record = Record.cleared := by
  rw [stageInvariant, h]

theorem stageInvariant_link {s : State} (h : s.stage = .link) : stageInvariant s ↔
    s.result = .none ∧ s.record = Record.cleared ∧ 10 ≤ s.flen ∧ byteAt s 0 = 0x05 ∧ byteAt s 1 = 0x64 := by
  rw [stageInvariant, h]

theorem stageInvariant_transport {s : State} (h : s.stage = .transport) : stageInvariant s ↔
    s.result = .none ∧ 10 ≤ s.flen ∧ s.record.linkConsistent ∧ s.record.transportClear ∧ s.record.appClear := by
  rw [stageInvariant, h]

theorem stageInvariant_app {s : State} (h : s.stage = .app) : stageInvariant s ↔
    s.result = .none ∧ 11 ≤ s.flen ∧ s.record.linkConsistent ∧ s.record.transportConsistent ∧ s.record.appClear := by
  rw [stageInvariant, h]

/-- At rest with a cleared record and RESULT not OK: after reset and after a failure. -/
theorem stageInvariant_of_cleared {s : State} (hs : s.stage = .idle) (hr : s.result ≠ .ok)
    (hrec : s.record = Record.cleared) : stageInvariant s :=
  (stageInvariant_idle hs).2 ⟨fun h => absurd h hr, fun _ => hrec⟩

theorem stageInvariant_raiseFailure (s : State) (k : Failure) : stageInvariant (s.raiseFailure k) :=
  stageInvariant_of_cleared rfl k.result_ne_ok rfl

/-- A change of the buffer or FLEN keeps the stage's part when it is made in IDLE, or leaves FLEN and the bytes PARSER may
read as they are. -/
theorem stageInvariant_of_hostWrite {s t : State} (hi : stageInvariant s) (hrec : t.record = s.record)
    (hstage : t.stage = s.stage) (hres : t.result = s.result)
    (h : s.stage = .idle ∨ t.flen = s.flen ∧ ∀ a < 13, byteAt t a = byteAt s a) : stageInvariant t := by
  rcases h with hidle | ⟨hflen, hbytes⟩
  · rw [stageInvariant_idle (hstage.trans hidle), hrec, hres]
    exact (stageInvariant_idle hidle).1 hi
  · unfold stageInvariant at hi ⊢
    rw [hstage, hrec, hres, hflen, hbytes 0 (by decide), hbytes 1 (by decide)]
    exact hi

/-! ## R26, stage by stage -/

theorem Record.cleared_transportClear : Record.cleared.transportClear := ⟨rfl, rfl, rfl, rfl⟩

theorem Record.cleared_appClear : Record.cleared.appClear := ⟨rfl, rfl, rfl, rfl, rfl, rfl, rfl, rfl⟩

/-- LINK writes consistent link registers when the marker stands at offset 0. -/
theorem Record.withLink_linkConsistent (r : Record) {st : Half} (hst : st = startMarker) (len c : Byte)
    (dst src crc : Half) : (r.withLink st len c dst src crc).linkConsistent :=
  ⟨hst, dirOf_eq_bitAt c, prmOf_eq_bitAt c, fcbOf_eq_bitAt c, fcvOf_eq_bitAt c, fcOf_eq_slice c, rfl⟩

theorem Record.withTransport_transportConsistent (r : Record) (t : Byte) :
    (r.withTransport t).transportConsistent :=
  ⟨trFinOf_eq_bitAt t, trFirOf_eq_bitAt t, trSeqOf_eq_slice t⟩

theorem Record.withApp_appConsistent (r : Record) (a f : Byte) : (r.withApp a f).appConsistent :=
  ⟨apFirOf_eq_bitAt a, apFinOf_eq_bitAt a, apConOf_eq_bitAt a, apUnsOf_eq_bitAt a, apSeqOf_eq_slice a, rfl⟩

/-- Each operation leaves the registers of the other layers alone, and so what was said of them. -/
theorem Record.withLink_transportClear {r : Record} (h : r.transportClear) (st : Half) (len c : Byte)
    (dst src crc : Half) : (r.withLink st len c dst src crc).transportClear := h

theorem Record.withLink_appClear {r : Record} (h : r.appClear) (st : Half) (len c : Byte) (dst src crc : Half) :
    (r.withLink st len c dst src crc).appClear := h

theorem Record.withTransport_linkConsistent {r : Record} (h : r.linkConsistent) (t : Byte) :
    (r.withTransport t).linkConsistent := h

theorem Record.withTransport_appClear {r : Record} (h : r.appClear) (t : Byte) : (r.withTransport t).appClear := h

theorem Record.withApp_linkConsistent {r : Record} (h : r.linkConsistent) (a f : Byte) :
    (r.withApp a f).linkConsistent := h

theorem Record.withApp_transportConsistent {r : Record} (h : r.transportConsistent) (a f : Byte) :
    (r.withApp a f).transportConsistent := h

/-! ## Every effect keeps the invariant -/

theorem ParserEffect.stageInvariant {s t : State} (h : ParserEffect s t) (hi : stageInvariant s) :
    stageInvariant t := by
  cases h with
  | rests => exact hi
  | validateShort | validateForeign | transportShort | appShort => exact stageInvariant_raiseFailure _ _
  | validated hs hn hm =>
    obtain ⟨hres, hrec⟩ := (stageInvariant_validate hs).1 hi
    exact (stageInvariant_link rfl).2 ⟨hres, hrec, hn, (be16_eq_startMarker_iff _ _).1 hm⟩
  | linked hs hn =>
    obtain ⟨hres, hrec, _, hbytes⟩ := (stageInvariant_link hs).1 hi
    have hlink : s.linkedRecord.linkConsistent :=
      Record.withLink_linkConsistent _ ((be16_eq_startMarker_iff _ _).2 hbytes) _ _ _ _ _
    have htransport : s.linkedRecord.transportClear :=
      Record.withLink_transportClear (hrec ▸ Record.cleared_transportClear) _ _ _ _ _ _
    have happ : s.linkedRecord.appClear := Record.withLink_appClear (hrec ▸ Record.cleared_appClear) _ _ _ _ _ _
    exact (stageInvariant_transport rfl).2 ⟨hres, hn, hlink, htransport, happ⟩
  | transported hs hn =>
    obtain ⟨hres, _, hlink, _, happ⟩ := (stageInvariant_transport hs).1 hi
    exact (stageInvariant_app rfl).2 ⟨hres, hn, Record.withTransport_linkConsistent hlink _,
      Record.withTransport_transportConsistent _ _, Record.withTransport_appClear happ _⟩
  | finished hs hn =>
    obtain ⟨_, _, hlink, htransport, _⟩ := (stageInvariant_app hs).1 hi
    have hconsistent : s.applicationRecord.consistent :=
      ⟨Record.withApp_linkConsistent hlink _ _, Record.withApp_transportConsistent htransport _ _,
        Record.withApp_appConsistent _ _ _⟩
    exact (stageInvariant_idle rfl).2 ⟨fun _ => hconsistent, fun hne => absurd rfl hne⟩

theorem ParserEffect.inv {s t : State} (h : ParserEffect s t) (hi : Inv s) : Inv t := by
  obtain ⟨hwf, hmax, hstage⟩ := hi
  obtain ⟨hfb, hflen, _⟩ := h.frame
  exact ⟨by rw [hfb]; exact hwf, by rw [hflen]; exact hmax, h.stageInvariant hstage⟩

/-- The invariant says nothing of HOST's moves. -/
theorem Inv.afterMove {s : State} (hi : Inv s) : Inv s.afterMove := hi

/-- A write of a byte that HOST may make keeps the invariant: outside IDLE it changes no byte PARSER may read. -/
theorem Inv.writeByte {s : State} {a : Nat} {b : Byte} (hi : Inv s)
    (hfree : ¬ (s.stage ≠ .idle ∧ a < 13 ∧ s.fb.read? a ≠ some b)) : Inv { s with fb := s.fb.write a b } := by
  obtain ⟨hwf, hmax, hstage⟩ := hi
  refine ⟨Memory.wf_write a b hwf, hmax, stageInvariant_of_hostWrite hstage rfl rfl rfl ?_⟩
  by_cases hidle : s.stage = .idle
  · exact .inl hidle
  · refine .inr ⟨rfl, fun x hx => ?_⟩
    by_cases hxa : x = a
    · subst hxa
      have hsame : s.fb.read? x = some b := not_not.1 fun hne => hfree ⟨hidle, hx, hne⟩
      rw [byteAt_of_read hsame, byteAt_write_self rfl]
    · exact byteAt_write_other rfl hxa

theorem Inv.writeLen {s : State} {n : Nat} (hi : Inv s) (hmax : n ≤ Config.fbMax)
    (hfree : s.stage = .idle ∨ n = s.flen) : Inv { s with flen := n } := by
  obtain ⟨hwf, _, hstage⟩ := hi
  exact ⟨hwf, hmax, stageInvariant_of_hostWrite hstage rfl rfl rfl (hfree.imp_right fun hn => ⟨hn, fun _ _ => rfl⟩)⟩

theorem StepEffect.inv {s t : State} (h : StepEffect s t) (hi : Inv s) : Inv t := by
  have hmoved : Inv s.afterMove := hi.afterMove
  obtain ⟨hwf, hmax, _⟩ := hi
  cases h with
  | parser _ hp => exact hp.inv hmoved
  | wroteByte _ hfree => exact hmoved.writeByte hfree
  | wroteLen _ hn hfree => exact hmoved.writeLen hn hfree
  | started => exact ⟨hwf, hmax, (stageInvariant_validate rfl).2 ⟨rfl, rfl⟩⟩
  | ignored => exact hmoved
  | reset => exact ⟨hwf, hmax, stageInvariant_of_cleared rfl nofun rfl⟩

/-- Settles O43: at reset the buffer memory lists nothing, FLEN is 0 and the record is cleared. -/
theorem invariantHoldsAtReset : Obligations.InvariantHoldsAtReset :=
  ⟨Memory.wf_reset, Nat.zero_le _, stageInvariant_of_cleared rfl (by decide) rfl⟩

/-- Settles O44, by the cases of what a step can do. -/
theorem everyStepKeepsTheInvariant : Obligations.EveryStepKeepsTheInvariant :=
  fun _ _ hi h => (step_effect h).inv hi

end Sys2Proof.Machine
end

section
/-! What no instruction writes: the frame buffer, FLEN and HOST's moves (20_memory.md R63). The code rows write one label,
the five operations what their case lemmas say. -/

namespace Sys2Proof.Machine

/-- An application row's effect is one label written to AP_LBL (44_code_tables.md R208). -/
theorem appRow_writesLabel {i : Instr} (hs : i.space = .appFc) : ∃ e, ∀ s, exec i s = .next (s.setApLbl e) := by
  cases i
  all_goals first
    | exact ⟨_, fun _ => rfl⟩
    | (simp [Instr.space] at hs)

/-- A code row of either table writes record registers alone. -/
theorem codeRow_setsRecord {i : Instr} (hs : i.space = .linkCtrl ∨ i.space = .appFc) (s : State) :
    ∃ r, exec i s = .next (s.setRecord r) := by
  rcases hs with hlink | happ
  · obtain ⟨_, p, _, _, fc, _, hexec⟩ := linkRow_word hlink
    exact ⟨_, (hexec s).trans (writeLinkLabel_eq p fc s)⟩
  · obtain ⟨_, hexec⟩ := appRow_writesLabel happ
    exact ⟨_, hexec s⟩

theorem codeRow_frame {i : Instr} {s t : State} (hs : i.space = .linkCtrl ∨ i.space = .appFc)
    (h : exec i s = .next t) : t.fb = s.fb ∧ t.flen = s.flen ∧ t.host = s.host := by
  obtain ⟨r, he⟩ := codeRow_setsRecord hs s
  cases he.symm.trans h
  exact ⟨rfl, rfl, rfl⟩

theorem exec_frame {i : Instr} {s t : State} (h : exec i s = .next t) :
    t.fb = s.fb ∧ t.flen = s.flen ∧ t.host = s.host := by
  cases i
  case start =>
    rcases exec_start_cases s with ⟨_, he⟩ | ⟨_, he⟩ <;> cases he.symm.trans h <;> exact ⟨rfl, rfl, rfl⟩
  case validate =>
    rcases exec_validate_cases s with ⟨_, he⟩ | ⟨_, _, he⟩ | ⟨_, _, he⟩ <;> cases he.symm.trans h <;>
      exact ⟨rfl, rfl, rfl⟩
  case link =>
    obtain ⟨_, rfl⟩ := exec_link_next h
    exact ⟨rfl, rfl, rfl⟩
  case transport =>
    rcases exec_transport_cases s with ⟨_, he⟩ | ⟨_, he⟩ <;> cases he.symm.trans h <;> exact ⟨rfl, rfl, rfl⟩
  case app =>
    rcases exec_app_cases s with ⟨_, he⟩ | ⟨_, he⟩ <;> cases he.symm.trans h <;> exact ⟨rfl, rfl, rfl⟩
  all_goals first
    | exact codeRow_frame (.inl rfl) h
    | exact codeRow_frame (.inr rfl) h

/-- Settles O27: with the buffer memory kept, every byte reads as before. -/
theorem instructionsNeverWriteTheBuffer : Obligations.InstructionsNeverWriteTheBuffer := by
  intro i s t h
  obtain ⟨hfb, hflen, hhost⟩ := exec_frame h
  exact ⟨byteAt_congr hfb, hfb, hflen, hhost⟩

end Sys2Proof.Machine
end

section
/-! Where a step can fault: LINK alone, on a buffer shorter than the ten bytes it reads (20_memory.md R66; log 11). -/

namespace Sys2Proof.Machine

/-- On ten bytes every read of LINK is inside the buffer (41_link.md R140). -/
theorem exec_link_long {s : State} (hn : 10 ≤ s.flen) :
    exec .link s = .next ((s.setRecord s.linkedRecord).setStage .transport) := by
  change execLink s = _
  unfold execLink
  rw [withHalfBE_of_lt (by omega), withByte_of_lt (by omega), withByte_of_lt (by omega), withHalfLE_of_lt (by omega),
    withHalfLE_of_lt (by omega), withHalfLE_of_lt (by omega)]
  rfl

theorem parserStep_fault {s : State} {r : Fault} (h : parserStep s = .fault r) : s.stage = .link ∧ s.flen < 10 := by
  cases hs : s.stage with
  | idle => cases (parserStep_idle hs).symm.trans h
  | validate =>
    rw [parserStep_validate hs] at h
    rcases exec_validate_cases s with ⟨_, he⟩ | ⟨_, _, he⟩ | ⟨_, _, he⟩ <;> cases he.symm.trans h
  | link =>
    rw [parserStep_link hs] at h
    exact ⟨rfl, Nat.lt_of_not_le fun hn => nomatch (exec_link_long hn).symm.trans h⟩
  | transport =>
    rw [parserStep_transport hs] at h
    rcases exec_transport_cases s with ⟨_, he⟩ | ⟨_, he⟩ <;> cases he.symm.trans h
  | app =>
    rw [parserStep_app hs] at h
    rcases exec_app_cases s with ⟨_, he⟩ | ⟨_, he⟩ <;> cases he.symm.trans h

/-- HOST's write of FLEN is taken or refused; it reads no buffer byte. -/
theorem hostWriteLen_ne_fault (n : Nat) (s : State) (r : Fault) : hostWriteLen n s ≠ .fault r := by
  unfold hostWriteLen
  split
  · nofun
  · split <;> nofun

/-- A write to CMD always gives a next state (10_state.md R33, 45_control.md R301). -/
theorem runAll_fetchCommand_ne_fault (w : Byte) (s : State) (r : Fault) : runAll (fetchCommand w) s ≠ .fault r := by
  by_cases hw : w &&& 0x01 = 0x01
  · rw [fetchCommand_start hw, runAll_singleton]
    rcases exec_start_cases s with ⟨_, he⟩ | ⟨_, he⟩ <;> rw [he] <;> nofun
  · rw [fetchCommand_none hw, runAll_nil]
    nofun

theorem step_fault {s : State} {r : Fault} (h : step s = .fault r) : s.stage = .link ∧ s.flen < 10 := by
  cases hm : s.host.head? with
  | none =>
    rw [step_of_host_nil (List.head?_eq_none_iff.1 hm)] at h
    exact parserStep_fault h
  | some m =>
    rw [step_of_head hm] at h
    cases m with
    | quiet => exact parserStep_fault (s := s.afterMove) h
    | writeByte a b =>
      rcases hostWriteByte_cases (a := a) (b := b) (s := s.afterMove) with ⟨he, _⟩ | ⟨he, _⟩ <;> cases he.symm.trans h
    | writeLen n => exact absurd h (hostWriteLen_ne_fault n _ r)
    | writeCmd w => exact absurd h (runAll_fetchCommand_ne_fault w _ r)
    | reset => cases (hostReset_eq s.afterMove).symm.trans h

/-- Settles O45: in LINK the invariant holds VALIDATE's length test, which is what keeps LINK's reads inside the buffer. -/
theorem noStepFaultsUnderTheInvariant : Obligations.NoStepFaultsUnderTheInvariant := by
  intro s r hi h
  obtain ⟨_, _, hstage⟩ := hi
  obtain ⟨hlink, hshort⟩ := step_fault h
  obtain ⟨_, _, hlong, _⟩ := (stageInvariant_link hlink).1 hstage
  exact absurd hlong (Nat.not_le.2 hshort)

end Sys2Proof.Machine
end

section
/-! A whole transaction. START and four steps of PARSER end with the register image of DECODE of the buffer
(45_control.md R307, R308), and DECODE reads no byte at or beyond min(FLEN, 13), so those bytes alone decide the end. -/

namespace Sys2Proof.Machine

/-! ## DECODE, case by case -/

/-- The end of a transaction whose marker was found: a buffer under 13 bytes is FrameTooShort, whichever of TRANSPORT and
APP finds it out (60_exceptions.md R321). -/
def lengthResult (n : Nat) (r : Record) : FrameResult :=
  if n < 13 then .error .frameTooShort else .ok r

theorem lengthResult_short {n : Nat} (hn : n < 13) (r : Record) : lengthResult n r = .error .frameTooShort := if_pos hn

theorem lengthResult_long {n : Nat} (hn : 13 ≤ n) (r : Record) : lengthResult n r = .ok r := if_neg (Nat.not_lt.2 hn)

theorem decodeFrame_short (fb : Nat → Byte) {n : Nat} (hn : n < 10) : decodeFrame fb n = .error .frameTooShort :=
  if_pos hn

theorem decodeFrame_foreign {fb : Nat → Byte} {n : Nat} (hn : 10 ≤ n) (hm : be16 (fb 0) (fb 1) ≠ startMarker) :
    decodeFrame fb n = .error .notDnp3 := by
  rw [Ne, be16_eq_startMarker_iff, not_and_or] at hm
  exact (if_neg (Nat.not_lt.2 hn)).trans (if_pos hm)

theorem decodeFrame_marked {fb : Nat → Byte} {n : Nat} (hn : 10 ≤ n) (hm : be16 (fb 0) (fb 1) = startMarker) :
    decodeFrame fb n = lengthResult n (decodedRecord fb) := by
  obtain ⟨h0, h1⟩ := (be16_eq_startMarker_iff _ _).1 hm
  exact (if_neg (Nat.not_lt.2 hn)).trans (if_neg (not_or.2 ⟨not_not.2 h0, not_not.2 h1⟩))

/-! ## DECODE reads the bytes below min(FLEN, 13) alone -/

theorem decodedRecord_congr {f g : Nat → Byte} (h : ∀ a < 13, f a = g a) : decodedRecord f = decodedRecord g := by
  unfold decodedRecord
  rw [h 2 (by decide), h 3 (by decide), h 4 (by decide), h 5 (by decide), h 6 (by decide), h 7 (by decide),
    h 8 (by decide), h 9 (by decide), h 10 (by decide), h 11 (by decide), h 12 (by decide)]

theorem decodeFrame_congr {f g : Nat → Byte} {n : Nat} (h : ∀ a < min n 13, f a = g a) :
    decodeFrame f n = decodeFrame g n := by
  rcases Nat.lt_or_ge n 10 with hn | hn
  · rw [decodeFrame_short f hn, decodeFrame_short g hn]
  · have hmarker : be16 (f 0) (f 1) = be16 (g 0) (g 1) := by rw [h 0 (by omega), h 1 (by omega)]
    by_cases hm : be16 (g 0) (g 1) = startMarker
    · rw [decodeFrame_marked hn (hmarker.trans hm), decodeFrame_marked hn hm]
      rcases Nat.lt_or_ge n 13 with hshort | hlong
      · rw [lengthResult_short hshort, lengthResult_short hshort]
      · rw [decodedRecord_congr fun a ha => h a (by omega)]
    · rw [decodeFrame_foreign hn (hmarker ▸ hm), decodeFrame_foreign hn hm]

/-! ## Four steps of PARSER -/

/-- The state with `n` quiet moves of HOST listed before the moves `rest`. -/
def State.awaiting (s : State) (n : Nat) (rest : List HostMove) : State :=
  { s with host := List.replicate n .quiet ++ rest }

theorem step_awaiting_succ (s : State) (n : Nat) (rest : List HostMove) :
    step (s.awaiting (n + 1) rest) = parserStep (s.awaiting n rest) :=
  step_of_host_cons (s := s.awaiting (n + 1) rest) (m := .quiet) rfl

theorem runSteps_awaiting_succ {s t : State} {n : Nat} {rest : List HostMove}
    (h : parserStep (s.awaiting n rest) = .next (t.awaiting n rest)) :
    runSteps (n + 1) (s.awaiting (n + 1) rest) = runSteps n (t.awaiting n rest) :=
  runSteps_succ_next ((step_awaiting_succ s n rest).trans h) n

section Steps

variable {s : State} (n : Nat) (rest : List HostMove)

/-- In IDLE PARSER rests however long HOST is silent (log 4). -/
theorem runSteps_idle (hs : s.stage = .idle) : runSteps n (s.awaiting n rest) = .next (s.awaiting 0 rest) := by
  induction n with
  | zero => rfl
  | succ n ih => rw [runSteps_awaiting_succ (parserStep_idle hs), ih]

/-- A step that ends the transaction is followed by rest. -/
theorem runSteps_of_ends {d : FrameResult}
    (h : parserStep (s.awaiting n rest) = .next ((s.withImage d).awaiting n rest)) :
    runSteps (n + 1) (s.awaiting (n + 1) rest) = .next ((s.withImage d).awaiting 0 rest) :=
  (runSteps_awaiting_succ h).trans (runSteps_idle n rest rfl)

theorem runSteps_app (hs : s.stage = .app) :
    runSteps (n + 1) (s.awaiting (n + 1) rest) =
      .next ((s.withImage (lengthResult s.flen s.applicationRecord)).awaiting 0 rest) := by
  apply runSteps_of_ends
  rw [parserStep_app (s := s.awaiting n rest) hs]
  rcases exec_app_cases (s.awaiting n rest) with ⟨(hn : s.flen < 13), he⟩ | ⟨(hn : 13 ≤ s.flen), he⟩
  · rw [he, lengthResult_short hn]; rfl
  · rw [he, lengthResult_long hn]; rfl

theorem runSteps_transport (hs : s.stage = .transport) :
    runSteps (n + 2) (s.awaiting (n + 2) rest) =
      .next ((s.withImage (lengthResult s.flen (s.transportedRecord.withApp (byteAt s 11) (byteAt s 12)))).awaiting
        0 rest) := by
  have hstep := parserStep_transport (s := s.awaiting (n + 1) rest) hs
  rcases exec_transport_cases (s.awaiting (n + 1) rest) with ⟨(hn : s.flen < 11), he⟩ | ⟨_, he⟩
  · rw [lengthResult_short (by omega)]
    exact runSteps_of_ends _ _ (hstep.trans he)
  · exact (runSteps_awaiting_succ (t := (s.setRecord s.transportedRecord).setStage .app) (hstep.trans he)).trans
      (runSteps_app n rest rfl)

theorem runSteps_link (hs : s.stage = .link) (hn : 10 ≤ s.flen) :
    runSteps (n + 3) (s.awaiting (n + 3) rest) =
      .next ((s.withImage (lengthResult s.flen
        ((s.linkedRecord.withTransport (byteAt s 10)).withApp (byteAt s 11) (byteAt s 12)))).awaiting 0 rest) := by
  have hstep := parserStep_link (s := s.awaiting (n + 2) rest) hs
  have he := exec_link_long (s := s.awaiting (n + 2) rest) hn
  exact (runSteps_awaiting_succ (t := (s.setRecord s.linkedRecord).setStage .transport) (hstep.trans he)).trans
    (runSteps_transport n rest rfl)

/-- The three decoding operations together write the record of DECODE: between them they write all 24 registers, so the
record they start from does not matter. -/
theorem layersWritten_eq_decodedRecord (hm : be16 (byteAt s 0) (byteAt s 1) = startMarker) :
    (s.linkedRecord.withTransport (byteAt s 10)).withApp (byteAt s 11) (byteAt s 12) = decodedRecord (byteAt s) := by
  simp only [State.linkedRecord, Record.withLink, Record.withTransport, Record.withApp, decodedRecord, hm, startMarker,
    dirOf_eq_bitAt, prmOf_eq_bitAt, fcbOf_eq_bitAt, fcvOf_eq_bitAt, fcOf_eq_slice, trFinOf_eq_bitAt, trFirOf_eq_bitAt,
    trSeqOf_eq_slice, apFirOf_eq_bitAt, apFinOf_eq_bitAt, apConOf_eq_bitAt, apUnsOf_eq_bitAt, apSeqOf_eq_slice,
    lresolve, aresolve, le16]

theorem runSteps_validate (hs : s.stage = .validate) :
    runSteps (n + 4) (s.awaiting (n + 4) rest) =
      .next ((s.withImage (decodeFrame (byteAt s) s.flen)).awaiting 0 rest) := by
  have hstep := parserStep_validate (s := s.awaiting (n + 3) rest) hs
  rcases exec_validate_cases (s.awaiting (n + 3) rest) with
    ⟨(hn : s.flen < 10), he⟩ | ⟨(hn : 10 ≤ s.flen), (hm : be16 (byteAt s 0) (byteAt s 1) ≠ startMarker), he⟩ |
    ⟨(hn : 10 ≤ s.flen), (hm : be16 (byteAt s 0) (byteAt s 1) = startMarker), he⟩
  · rw [decodeFrame_short _ hn]
    exact runSteps_of_ends _ _ (hstep.trans he)
  · rw [decodeFrame_foreign hn hm]
    exact runSteps_of_ends _ _ (hstep.trans he)
  · rw [decodeFrame_marked hn hm, ← layersWritten_eq_decodedRecord hm]
    exact (runSteps_awaiting_succ (t := s.setStage .link) (hstep.trans he)).trans (runSteps_link n rest rfl hn)

theorem step_startAndWait {w : Byte} (hs : s.stage = .idle) (hw : w &&& 0x01 = 0x01)
    (hm : s.host = startAndWait w rest) :
    step s = .next ((((s.clearRecord).setResult .none).setStage .validate).awaiting 4 rest) := by
  rw [step_of_host_cons hm, applyMove, fetchCommand_start hw, runAll_singleton]
  exact if_pos hs

/-- START from IDLE and four steps of PARSER, whatever the record and RESULT held before. -/
theorem runSteps_startAndWait {w : Byte} (hs : s.stage = .idle) (hw : w &&& 0x01 = 0x01)
    (hm : s.host = startAndWait w rest) :
    runSteps 5 s = .next ((s.withImage (decodeFrame (byteAt s) s.flen)).awaiting 0 rest) :=
  (runSteps_succ_next (step_startAndWait rest hs hw hm) 4).trans (runSteps_validate 0 rest rfl)

end Steps

/-- Settles O51: both ends are the image of DECODE, which is the same for both buffers. -/
theorem equalBuffersEndWithEqualResults : Obligations.EqualBuffersEndWithEqualResults := by
  intro s t w w' rest rest' hs ht hw hw' hm hm' hflen hbytes
  have himage : decodeFrame (byteAt s) s.flen = decodeFrame (byteAt t) t.flen := by
    rw [← hflen, decodeFrame_congr hbytes]
  exact ⟨_, _, runSteps_startAndWait rest hs hw hm, runSteps_startAndWait rest' ht hw' hm',
    congrArg FrameResult.result himage, congrArg FrameResult.record himage⟩

end Sys2Proof.Machine
end

section
/-! Several instances (60_exceptions.md R341): a step of one is a write at its position that depends on that position
alone. -/

namespace Sys2Proof.Machine

theorem stepInstance_of_none {k : Nat} {m : Instances} (h : m[k]? = none) : stepInstance k m = .next m := by
  unfold stepInstance; rw [h]

theorem stepInstance_of_some {k : Nat} {m : Instances} {s t : State} (h : m[k]? = some s) (hstep : step s = .next t) :
    stepInstance k m = .next (m.set k t) := by
  simp only [stepInstance, h, hstep]

/-- The write is of the state that stepping the one at `k` gives; with none there, of any state, since nothing is written. -/
theorem stepInstance_next {k : Nat} {m a : Instances} (h : stepInstance k m = .next a) :
    ∃ t, a = m.set k t ∧ ∀ m' : Instances, m'[k]? = m[k]? → stepInstance k m' = .next (m'.set k t) := by
  cases hk : m[k]? with
  | none =>
    have hset : ∀ m' : Instances, m'[k]? = none → m'.set k State.reset = m' := fun m' hm' =>
      List.set_eq_of_length_le (List.getElem?_eq_none_iff.1 hm')
    cases (stepInstance_of_none hk).symm.trans h
    exact ⟨State.reset, (hset m hk).symm, fun m' hm' => (stepInstance_of_none hm').trans (by rw [hset m' hm'])⟩
  | some s =>
    simp only [stepInstance, hk] at h
    cases hstep : step s with
    | next t =>
      rw [hstep] at h
      cases h
      exact ⟨t, rfl, fun m' hm' => stepInstance_of_some hm' hstep⟩
    | fault r => rw [hstep] at h; cases h
    | refused r => rw [hstep] at h; cases h

/-- Settles O54: writes at different positions leave each other alone and can be taken in either order. -/
theorem instancesDoNotInteract : Obligations.InstancesDoNotInteract := by
  refine ⟨fun m a k j h hjk => ?locality, fun m a b j k hjk ha hb => ?commute⟩
  case locality =>
    obtain ⟨t, rfl, _⟩ := stepInstance_next h
    exact List.getElem?_set_ne hjk.symm
  case commute =>
    obtain ⟨t, rfl, hj⟩ := stepInstance_next ha
    obtain ⟨u, rfl, hk⟩ := stepInstance_next hb
    refine ⟨_, hk _ (List.getElem?_set_ne hjk), ?_⟩
    rw [hj _ (List.getElem?_set_ne hjk.symm), List.set_comm _ _ hjk]

end Sys2Proof.Machine
end

section
/-! Decoding in every build: the words the encoder writes, the control and function bytes with the rows they select, and
how many rows of the opcode table match a byte (30_encoding.md R105, R106, 44_code_tables.md R279, R281). -/

namespace Sys2Proof

/-- Settles O55: `decodeIn_encode`, which O1 uses for the build that names every code of the two ranges. -/
theorem decodeOfEncodeInEveryBuild : Obligations.DecodeOfEncodeInEveryBuild :=
  fun named _ h => decodeIn_encode named h

/-! ## The row a code byte selects -/

/-- Only the application rows depend on the codes a build names. -/
theorem wellFormedIn_of_space_ne_appFc (named : Byte → Bool) {i : Instr} (hs : i.space ≠ .appFc) :
    i.wellFormedIn named = true := by
  cases i
  all_goals first
    | rfl
    | exact absurd rfl hs

/-- A named row is well-formed exactly in the builds that name its code. -/
theorem wellFormedIn_of_encode (named : Byte → Bool) {i : Instr} {f : Byte} (hs : i.space = .appFc)
    (he : encode i = [f]) (hu : i ≠ .afcUnassigned f) : i.wellFormedIn named = named f := by
  cases i
  case afcUnassigned c =>
    obtain rfl : c = f := List.head_eq_of_cons_eq he
    exact absurd rfl hu
  all_goals first
    | (obtain rfl := List.head_eq_of_cons_eq he; rfl)
    | cases hs

/-- What an application byte decodes to: a well-formed row whose word it is, AFC_UNASSIGNED exactly for a code that is
outside the two ranges or not named (R105 c, R279). -/
theorem decodeIn_appFc_row (named : Byte → Bool) (f : Byte) : ∃ i,
    decodeIn named .appFc [f] = .ok i ∧ i.space = .appFc ∧ encode i = [f] ∧ i.wellFormedIn named = true ∧
    (i = .afcUnassigned f ↔ ¬ (inAppRange f = true ∧ named f = true)) := by
  rcases Machine.decodeAppFc_cases named f with ⟨hyes, i, hi, hd⟩ | ⟨hno, hd⟩
  · obtain ⟨hs, he, hu⟩ := Machine.namedRow_word hi
    have hrn : inAppRange f = true ∧ named f = true := Bool.and_eq_true_iff.1 hyes
    exact ⟨i, hd, hs, he, (wellFormedIn_of_encode named hs he hu).trans hrn.2,
      fun hi => absurd hi hu, fun hn => absurd hrn hn⟩
  · refine ⟨.afcUnassigned f, hd, rfl, rfl, ?wellFormed, fun _ hrn => ?unnamed, fun _ => rfl⟩
    case wellFormed => rw [Instr.wellFormedIn, hno]; rfl
    case unnamed => exact Bool.false_ne_true (hno.symm.trans (Bool.and_eq_true_iff.2 hrn))

/-- The code spaces other than the application function byte do not look at the names, whether the bytes are a word's
one or two or any other number. -/
theorem decodeIn_eq_decode (named : Byte → Bool) {space : Space} (hs : space ≠ .appFc) (bytes : List Byte) :
    decodeIn named space bytes = decode space bytes := by
  cases space
  case appFc => exact absurd rfl hs
  all_goals obtain _ | ⟨_, _ | ⟨_, _ | _⟩⟩ := bytes <;> rfl

/-- Settles O56. -/
theorem aCodeSelectsANamedRowExactlyWhenItIsNamed : Obligations.ACodeSelectsANamedRowExactlyWhenItIsNamed :=
  ⟨decodeIn_appFc_row, fun named _ bytes hs => decodeIn_eq_decode named hs bytes⟩

/-- Settles O2: the row a control byte is found in has the byte for its word, and so has the row of a function byte in
the build that names every code of the two ranges. -/
theorem everyCodeByteIsTheEncodingOfItsRow : Obligations.EveryCodeByteIsTheEncodingOfItsRow := by
  refine ⟨fun c => ?control, fun f => ?function⟩
  case control =>
    obtain ⟨i, hrow, hs, he⟩ := Machine.findRow_linkRows c
    refine ⟨i, hs, wellFormedIn_of_space_ne_appFc inAppRange (by rw [hs]; decide), ?_, he⟩
    rw [decode, decodeIn, decodeLinkCtrl, hrow]
  case function =>
    obtain ⟨i, hd, hs, he, hwf, _⟩ := decodeIn_appFc_row inAppRange f
    exact ⟨i, hs, hwf, hd, he⟩

/-! ## How many rows match a byte -/

/-- Rows of one mask whose patterns are distinct: one matches a byte when the masked byte is a pattern, else none. -/
theorem length_filter_hits {rows : List CodeRow} {mask : Byte} (hmask : ∀ r ∈ rows, r.mask = mask)
    (hnodup : (rows.map CodeRow.pattern).Nodup) (b : Byte) :
    (rows.filter fun r => r.hits b).length = if b &&& mask ∈ rows.map CodeRow.pattern then 1 else 0 := by
  have hhits : ∀ r ∈ rows, r.hits b = (r.pattern == b &&& mask) := fun r hr => by
    rw [CodeRow.hits, hmask r hr, BEq.comm]
  rw [List.filter_congr hhits, ← hnodup.count, List.count, List.countP_map, List.countP_eq_length_filter]
  rfl

/-- Every value of PRM and FC is the pattern of a link row (R106). -/
theorem masked_mem_linkPatterns : ∀ c : Byte, c &&& 0x4f ∈ linkRows.map CodeRow.pattern := by decide

/-- The codes of the two ranges are the patterns of the named application rows (R106). -/
theorem mem_appPatterns_iff : ∀ f : Byte, f ∈ appRows.map CodeRow.pattern ↔ inAppRange f = true := by decide

/-- Settles O3: the patterns of the link rows and of the application rows are distinct, under the masks 0x4F and
0xFF. -/
theorem exactlyOneCodeRowMatchesEachByte : Obligations.ExactlyOneCodeRowMatchesEachByte := by
  intro b
  have hlink := length_filter_hits (rows := linkRows) (mask := 0x4f) (by decide) (by decide) b
  have happ := length_filter_hits (rows := appRows) (mask := 0xff) (by decide) (by decide) b
  rw [if_pos (masked_mem_linkPatterns b)] at hlink
  have hall : b &&& 0xff = b := BitVec.and_allOnes
  simp only [hall, mem_appPatterns_iff] at happ
  exact ⟨hlink, happ⟩

/-! ## Byte assembly -/

/-- The two byte orders are each other's mirror image (R98, R99). -/
theorem le16_eq_be16_swap (a b : Byte) : le16 a b = be16 b a := BitVec.or_comm _ _

/-- LE16 by value (R98). -/
theorem le16_toNat (a b : Byte) : (le16 a b).toNat = a.toNat + 256 * b.toNat := by
  rw [le16_eq_be16_swap, be16_toNat, Nat.add_comm]

/-- A slice put back above the bits below it gives the slice of both. -/
theorem slice_or_lowerSlice {w : Nat} (b : BitVec w) (k n : Nat) :
    (b.extractLsb' k n).setWidth w <<< k ||| (b.extractLsb' 0 k).setWidth w = (b.extractLsb' 0 (k + n)).setWidth w := by
  ext j hj
  by_cases hjk : j < k
  · simp [hjk, Nat.lt_add_right n hjk]
  · have hlt : j - k < n ↔ j < k + n := by omega
    simp [hjk, hj, hlt, Nat.add_sub_cancel' (Nat.le_of_not_lt hjk)]

end Sys2Proof

namespace Sys2Proof.Machine

/-- Settles O8: the values of LE16 and BE16, and the buffer reads inside the buffer. -/
theorem halvesAreAssembledInTheirByteOrder : Obligations.HalvesAreAssembledInTheirByteOrder :=
  ⟨fun a b => ⟨le16_toNat a b, be16_toNat a b⟩,
    fun _ _ k h => ⟨withHalfLE_of_lt h k, withHalfBE_of_lt h k⟩⟩

/-- Four flag bits and the nibble below them (30_encoding.md R91, R93). -/
theorem flags_or_nibble (b : Byte) :
    (bitAt b 7).setWidth 8 <<< 7 ||| (bitAt b 6).setWidth 8 <<< 6 ||| (bitAt b 5).setWidth 8 <<< 5 |||
      (bitAt b 4).setWidth 8 <<< 4 ||| (b.extractLsb' 0 4).setWidth 8 = b := by
  simp only [bitAt, BitVec.or_assoc, slice_or_lowerSlice]
  simp

/-- Two flag bits and the six bits below them (R92). -/
theorem flags_or_sixBits (b : Byte) :
    (bitAt b 7).setWidth 8 <<< 7 ||| (bitAt b 6).setWidth 8 <<< 6 ||| (b.extractLsb' 0 6).setWidth 8 = b := by
  simp only [bitAt, BitVec.or_assoc, slice_or_lowerSlice]
  simp

/-- Settles O5: each field is the slice of the byte that its place is named for. -/
theorem extractedFieldsReconstructTheByte : Obligations.ExtractedFieldsReconstructTheByte := by
  intro b
  refine ⟨?link, ?application, ?transport⟩
  case link =>
    rw [dirOf_eq_bitAt, prmOf_eq_bitAt, fcbOf_eq_bitAt, fcvOf_eq_bitAt, fcOf_eq_slice]
    exact flags_or_nibble b
  case application =>
    rw [apFirOf_eq_bitAt, apFinOf_eq_bitAt, apConOf_eq_bitAt, apUnsOf_eq_bitAt, apSeqOf_eq_slice]
    exact flags_or_nibble b
  case transport =>
    rw [trFinOf_eq_bitAt, trFirOf_eq_bitAt, trSeqOf_eq_slice]
    exact flags_or_sixBits b

theorem trSeqOf_toNat (t : Byte) : (trSeqOf t).toNat = t.toNat % 64 := by
  rw [trSeqOf_eq_slice]
  exact BitVec.extractLsb'_toNat 0 6 t

theorem apSeqOf_toNat (a : Byte) : (apSeqOf a).toNat = a.toNat % 16 := by
  rw [apSeqOf_eq_slice]
  exact BitVec.extractLsb'_toNat 0 4 a

/-- Settles O7: a slice from bit 0 is the byte modulo the power of its width. -/
theorem sequenceFieldsWrapInTheirWidth : Obligations.SequenceFieldsWrapInTheirWidth :=
  ⟨fun b => ⟨trSeqOf_toNat b, apSeqOf_toNat b⟩, rfl, rfl, rfl, rfl⟩

end Sys2Proof.Machine
end

section
/-! The code row a step runs and the row the build selects do the same, so a step is the stage operation followed by
either (30_encoding.md R105, 44_code_tables.md R279, R281; log 2, 15). -/

namespace Sys2Proof.Machine

/-- The two rows can differ in APP alone, where both write what ARESOLVE gives for the function byte. -/
theorem runAll_fetchRow_eq_selectedRow (s t : State) : runAll (fetchRow s) t = runAll (selectedRow s) t := by
  unfold fetchRow selectedRow rowIn
  cases s.stage
  case idle => rfl
  case validate => rfl
  case transport => rfl
  case link => rw [decodeIn_eq_decode romNamed (by decide), decodeIn_eq_decode inAppRange (by decide)]
  case app =>
    obtain ⟨row, hd, _⟩ := decodeIn_appFc_row inAppRange (byteAt s 12)
    obtain ⟨row', hd', _⟩ := decodeIn_appFc_row romNamed (byteAt s 12)
    simp only [hd, hd']
    split
    · calc runAll [row] t = exec row t := runAll_singleton row t
        _ = exec row' t := exec_tableRow_eq_selectedRow hd hd' t
        _ = runAll [row'] t := (runAll_singleton row' t).symm
    · rfl

/-- Lists that do the same from every state do the same after one more instruction. -/
theorem runAll_cons_congr (i : Instr) {is js : List Instr} (h : ∀ t, runAll is t = runAll js t) (s : State) :
    runAll (i :: is) s = runAll (i :: js) s := by
  cases he : exec i s with
  | next t => rw [runAll_cons_next he, runAll_cons_next he, h t]
  | fault r => rw [runAll_cons_fault he, runAll_cons_fault he]
  | refused r => rw [runAll_cons_refused he, runAll_cons_refused he]

/-- PARSER's step is the operation STAGE names, then the row the build selects. -/
theorem parserStep_eq_runAll_selectedRow {s : State} {i : Instr}
    (h : decode .stage [s.stage.code.setWidth 8] = .ok i) : parserStep s = runAll (i :: selectedRow s) s := by
  have hfetch : fetch s = i :: fetchRow s := by rw [fetch, fetchStage, h]; rfl
  rw [parserStep, hfetch]
  exact runAll_cons_congr i (runAll_fetchRow_eq_selectedRow s) s

/-- Settles O57: with HOST silent and after a quiet move alike, the step is PARSER's; the row does not depend on HOST's
moves. -/
theorem stepRunsTheRowTheBuildSelects : Obligations.StepRunsTheRowTheBuildSelects := by
  refine ⟨fun s i hhost hi => ?silent, fun s i rest hhost hi => ?quiet⟩
  case silent => exact (step_of_host_nil hhost).trans (parserStep_eq_runAll_selectedRow hi)
  case quiet =>
    exact (step_of_host_cons hhost).trans (parserStep_eq_runAll_selectedRow (s := { s with host := rest }) hi)

end Sys2Proof.Machine
end

section
/-! Rendered texts (30_encoding.md R110 to R113): the lookups whose entries no parameter changes, and the texts of those
entries. -/

namespace Sys2Proof.Machine

theorem Roms.pri_four (r : Roms) : Roms.pri r 4 = ⟨1, "Unconfirmed User Data"⟩ := rfl

theorem Roms.pri_of_unused (r : Roms) {i : BitVec 4} (h4 : i ≠ 4) (hu : primaryUsed i = false) :
    Roms.pri r i = LabelEntry.placeholder := by
  rw [Roms.pri, if_neg h4, hu]; rfl

/-- A code outside the two ranges is a miss, whatever APP_NAMED is (44_code_tables.md R205). -/
theorem Roms.app_of_outside (r : Roms) {c : Byte} (h : inAppRange c = false) :
    Roms.app r c = LabelEntry.placeholder := by
  rw [Roms.app, Roms.named, h]; rfl

/-- Settles O14: none of the five lookups depends on the parameters, and the texts are evaluated. -/
theorem renderedTextsOfEveryInstance : Obligations.RenderedTextsOfEveryInstance := by
  intro r
  rw [Roms.pri_four, Roms.pri_of_unused r (i := 7) (by decide) rfl, Roms.pri_of_unused r (i := 10) (by decide) rfl,
    Roms.app_of_outside r (c := 50) rfl, Roms.app_of_outside r (c := 255) rfl]
  decide

/-- Settles O15: the lookups in the default tables and their texts, evaluated. -/
theorem renderedTextsOfTheDefaultInstance : Obligations.RenderedTextsOfTheDefaultInstance := by
  unfold Obligations.RenderedTextsOfTheDefaultInstance
  decide

end Sys2Proof.Machine
end

section
/-! VALIDATE's three ends (40_validate.md R130), alone and at the end of a whole transaction (R132). -/

namespace Sys2Proof.Machine

theorem be16_ne_startMarker_iff (a b : Byte) : be16 a b ≠ startMarker ↔ a ≠ 0x05 ∨ b ≠ 0x64 := by
  rw [Ne, be16_eq_startMarker_iff, not_and_or]

/-- Settles O17: short, foreign and marked are the cases of the length test and of the marker test after it. -/
theorem validateTestsLengthThenMarker : Obligations.ValidateTestsLengthThenMarker := by
  intro s
  refine ⟨fun hn h0 h1 => ?marked, fun hn => ?short, fun hn hforeign => ?foreign⟩
  case marked =>
    have hm := (be16_eq_startMarker_iff _ _).2 ⟨h0, h1⟩
    exact (exec_validate_long hn).trans (if_neg (not_not.2 hm))
  case short => exact exec_validate_short hn
  case foreign =>
    have hm := (be16_ne_startMarker_iff _ _).2 hforeign
    exact (exec_validate_long hn).trans (if_pos hm)

/-- A transaction from IDLE that DECODE ends in a failure leaves the failure in RESULT, no record, and IDLE as it was. -/
theorem runSteps_startAndWait_error {s : State} {w : Byte} {rest : List HostMove} {k : Failure} (hs : s.stage = .idle)
    (hw : w &&& 0x01 = 0x01) (hm : s.host = startAndWait w rest) (hd : decodeFrame (byteAt s) s.flen = .error k) :
    runSteps 5 s = .next { s with host := rest, result := k.result, record := Record.cleared } := by
  rw [runSteps_startAndWait rest hs hw hm, hd]
  obtain ⟨record, stage, result, flen, fb, host⟩ := s
  cases hs
  rfl

/-- Settles O49: DECODE of a short buffer and of a foreign one is VALIDATE's failure. -/
theorem shortAndForeignBuffersWriteNoFields : Obligations.ShortAndForeignBuffersWriteNoFields := by
  intro s w rest hs hw hm
  refine ⟨fun hn => ?short, fun hn hforeign => ?foreign⟩
  case short => exact runSteps_startAndWait_error hs hw hm (decodeFrame_short _ hn)
  case foreign =>
    exact runSteps_startAndWait_error hs hw hm (decodeFrame_foreign hn ((be16_ne_startMarker_iff _ _).2 hforeign))

end Sys2Proof.Machine
end

section
/-! LINK stores the link header (41_link.md R140) and judges none of it: of the bytes it slices, the length byte and the
two crc bytes reach DL_LEN and DL_CRC and nothing else (R142, R146). -/

namespace Sys2Proof.Machine

/-- Settles O18: on ten bytes no read of LINK faults, and the masked extractor of the link control byte reads off its bits
and its nibble (30_encoding.md R91). -/
theorem linkWritesTheTwelveLinkRegisters : Obligations.LinkWritesTheTwelveLinkRegisters := by
  intro s hn
  rw [exec_link_long hn, State.linkedRecord, Record.withLink, dirOf_eq_bitAt, prmOf_eq_bitAt, fcbOf_eq_bitAt,
    fcvOf_eq_bitAt, fcOf_eq_slice]
  rfl

/-- FLEN and the marker alone decide how DECODE ends: with equal markers it gives the same failure for both buffers, or a
record for each (45_control.md R307). -/
theorem decodeFrame_of_equal_markers {f g : Nat → Byte} (n : Nat) (h0 : f 0 = g 0) (h1 : f 1 = g 1) :
    (∃ k, decodeFrame f n = .error k ∧ decodeFrame g n = .error k) ∨
      (decodeFrame f n = .ok (decodedRecord f) ∧ decodeFrame g n = .ok (decodedRecord g)) := by
  rcases Nat.lt_or_ge n 10 with hn | hn
  · exact .inl ⟨_, decodeFrame_short f hn, decodeFrame_short g hn⟩
  have hmarker : be16 (f 0) (f 1) = be16 (g 0) (g 1) := by rw [h0, h1]
  by_cases hm : be16 (g 0) (g 1) = startMarker
  · rw [decodeFrame_marked hn (hmarker.trans hm), decodeFrame_marked hn hm]
    rcases Nat.lt_or_ge n 13 with hshort | hlong
    · exact .inl ⟨_, lengthResult_short hshort _, lengthResult_short hshort _⟩
    · exact .inr ⟨lengthResult_long hlong _, lengthResult_long hlong _⟩
  · exact .inl ⟨_, decodeFrame_foreign hn (hmarker ▸ hm), decodeFrame_foreign hn hm⟩

/-- The bytes at offsets 2, 8 and 9 reach DL_LEN and DL_CRC alone. -/
theorem decodedRecord_of_differ_in_len_crc {f g : Nat → Byte} (h : ∀ a, a ≠ 2 → a ≠ 8 → a ≠ 9 → f a = g a) :
    decodedRecord f = { decodedRecord g with dlLen := f 2, dlCrc := le16 (f 8) (f 9) } := by
  simp (disch := decide) only [decodedRecord, le16, h]

/-- Settles O52: both ends are the image of DECODE; the two buffers have the same marker, so both fail alike or both give
a record, and the records differ in DL_LEN and DL_CRC alone. -/
theorem lengthAndCrcDecideNothing : Obligations.LengthAndCrcDecideNothing := by
  intro s t w rest hs ht hw hm hm' hflen hbytes
  refine ⟨_, _, runSteps_startAndWait rest hs hw hm, runSteps_startAndWait rest ht hw hm', ?_⟩
  have h0 := hbytes 0 (by decide) (by decide) (by decide)
  have h1 := hbytes 1 (by decide) (by decide) (by decide)
  rw [← hflen]
  rcases decodeFrame_of_equal_markers s.flen h0 h1 with ⟨k, hks, hkt⟩ | ⟨hrs, hrt⟩
  · rw [hks, hkt]
    exact ⟨rfl, rfl⟩
  · rw [hrs, hrt, decodedRecord_of_differ_in_len_crc hbytes]
    exact ⟨rfl, rfl⟩

end Sys2Proof.Machine
end

section
/-! TRANSPORT takes its four registers from the transport byte, or raises FrameTooShort (42_transport.md R160, R161). -/

namespace Sys2Proof.Machine

/-- The transport record with its fields as bits and a slice of the byte at offset 10 (10_state.md R23, 30_encoding.md
R92). -/
theorem State.transportedRecord_eq_slices (s : State) :
    s.transportedRecord = { s.record with
      trByte := byteAt s 10
      trFin := bitAt (byteAt s 10) 7
      trFir := bitAt (byteAt s 10) 6
      trSeq := (byteAt s 10).extractLsb' 0 6 } := by
  rw [State.transportedRecord, Record.withTransport, trFinOf_eq_bitAt, trFirOf_eq_bitAt, trSeqOf_eq_slice]

/-- Settles O19: the two cases of TRANSPORT are the two sides of its length guard, so each excludes the other clause. -/
theorem transportWritesItsRegistersOrRaises : Obligations.TransportWritesItsRegistersOrRaises := by
  intro s
  rcases exec_transport_cases s with ⟨hshort, he⟩ | ⟨hlong, he⟩
  · exact ⟨fun hn => absurd hshort (Nat.not_lt.2 hn), fun _ => he⟩
  · rw [State.transportedRecord_eq_slices] at he
    exact ⟨fun _ => he, fun hn => absurd hlong (Nat.not_le.2 hn)⟩

end Sys2Proof.Machine
end

section
/-! APP takes its eight registers from the two application header bytes, or raises FrameTooShort, and a function code that
the build does not name ends OK like any other (43_application.md R170, R172). -/

namespace Sys2Proof.Machine

/-- The application record with its fields as bits and a slice of the byte at offset 11 (10_state.md R23, 30_encoding.md
R93). -/
theorem State.applicationRecord_eq_slices (s : State) :
    s.applicationRecord = { s.record with
      apCtrl := byteAt s 11
      apFir := bitAt (byteAt s 11) 7
      apFin := bitAt (byteAt s 11) 6
      apCon := bitAt (byteAt s 11) 5
      apUns := bitAt (byteAt s 11) 4
      apSeq := (byteAt s 11).extractLsb' 0 4
      apFc := byteAt s 12
      apLbl := aresolve (byteAt s 12) } := by
  rw [State.applicationRecord, Record.withApp, apFirOf_eq_bitAt, apFinOf_eq_bitAt, apConOf_eq_bitAt, apUnsOf_eq_bitAt,
    apSeqOf_eq_slice]

/-- Settles O20: the two cases of APP are the two sides of its length test, so each excludes the other clause. -/
theorem appWritesItsRegistersOrRaises : Obligations.AppWritesItsRegistersOrRaises := by
  intro s
  rcases exec_app_cases s with ⟨hshort, he⟩ | ⟨hlong, he⟩
  · exact ⟨fun hn => absurd hshort (Nat.not_lt.2 hn), fun _ => he⟩
  · rw [State.applicationRecord_eq_slices] at he
    exact ⟨fun _ => he, fun hn => absurd hlong (Nat.not_le.2 hn)⟩

/-- The default row stands for every code the build's table does not name (44_code_tables.md R279). -/
theorem wellFormedIn_afcUnassigned_of_unnamed {f : Byte} (h : romNamed f = false) :
    (Instr.afcUnassigned f).wellFormedIn romNamed = true := by
  rw [Instr.wellFormedIn, h, Bool.and_false, Bool.not_false]

/-- Settles O58: the row is the one the decoder has for an unnamed code, and APP's registers are those of O20, where
ARESOLVE misses. -/
theorem unnamedCodesGetThePlaceholderAndSucceed : Obligations.UnnamedCodesGetThePlaceholderAndSucceed := by
  intro f s hf
  refine ⟨?selected, ?row, fun hn hcode => ?app⟩
  case selected => exact decodeIn_unassigned (wellFormedIn_afcUnassigned_of_unnamed hf)
  case row => rfl
  case app =>
    obtain ⟨hlong, _⟩ := appWritesItsRegistersOrRaises s
    have hlabel : aresolve (byteAt s 12) = LabelEntry.placeholder := aresolve_of_unnamed (hcode ▸ hf)
    exact ⟨_, hlong hn, rfl, hcode, hlabel⟩

end Sys2Proof.Machine
end

section
/-! What the three ROMs hold for every value of their parameters (44_code_tables.md R203 to R205). -/

namespace Sys2Proof.Machine

/-- Whatever the parameter is, the entry of a used index is assigned with a name that the tables may hold. -/
theorem namedEntry_isTableEntry (raw : String) : ∃ t, tableName t ∧ namedEntry raw = ⟨1, t⟩ :=
  ⟨legalName raw, ⟨legalName_ne_empty raw, legalName_ne_placeholder raw⟩, rfl⟩

/-- The primary indices that hold the placeholder (R203). -/
theorem primaryUnused_of_listed :
    ∀ i ∈ ([5, 6, 7, 8, 10, 11, 12, 13] : List (BitVec 4)), i ≠ 4 ∧ primaryUsed i = false := by decide

/-- Settles O9: the listed indices are the unused ones, index 4, and the used ones other than 4. -/
theorem primaryTableHoldsWhatTheSourceFixes : Obligations.PrimaryTableHoldsWhatTheSourceFixes := by
  intro r
  refine ⟨fun i hi => ?unused, Roms.pri_four r, fun i hi => ?used⟩
  case unused =>
    obtain ⟨h4, hunused⟩ := primaryUnused_of_listed i hi
    exact Roms.pri_of_unused r h4 hunused
  case used =>
    obtain ⟨h4, hused⟩ := primaryUsed_of_parametric i hi
    rw [Roms.pri_of_used r h4 hused]
    exact namedEntry_isTableEntry _

theorem Roms.sec_of_used (r : Roms) {i : BitVec 4} (h : r.secUsed i = true) :
    Roms.sec r i = namedEntry (r.nameSec i) := if_pos h

theorem Roms.sec_of_unused (r : Roms) {i : BitVec 4} (h : r.secUsed i = false) :
    Roms.sec r i = LabelEntry.placeholder := if_neg (ne_true_of_eq_false h)

/-- SEC_USED of the default instance (R204). -/
theorem defaultRoms_secUsed_iff : ∀ i : BitVec 4,
    defaultRoms.secUsed i = true ↔ i ∈ ([0, 1, 11, 14, 15] : List (BitVec 4)) := by decide

/-- Settles O10: SEC_USED alone decides between a named entry and the placeholder. -/
theorem secondaryTableFollowsItsUsedSet : Obligations.SecondaryTableFollowsItsUsedSet := by
  refine ⟨fun r i => ⟨fun h => ?used, fun h => ?unused⟩, defaultRoms_secUsed_iff⟩
  case used =>
    rw [Roms.sec_of_used r h]
    exact namedEntry_isTableEntry _
  case unused => exact Roms.sec_of_unused r h

/-- The two ranges as bounds on the code (R205). -/
theorem inAppRange_iff (c : Byte) :
    inAppRange c = true ↔ c.toNat ≤ 33 ∨ 129 ≤ c.toNat ∧ c.toNat ≤ 131 := by
  simp only [inAppRange, Bool.or_eq_true, Bool.and_eq_true, decide_eq_true_eq]

/-- The codes that lie between the two ranges or above them (R205). -/
theorem inAppRange_eq_false_iff (c : Byte) :
    inAppRange c = false ↔ 33 < c.toNat ∧ c.toNat < 129 ∨ 131 < c.toNat := by
  rw [← Bool.not_eq_true, inAppRange_iff]
  omega

theorem Roms.app_of_named (r : Roms) {c : Byte} (hc : inAppRange c = true) (h : r.appNamed c = true) :
    Roms.app r c = namedEntry (r.nameApp c) :=
  if_pos (Bool.and_eq_true_iff.2 ⟨hc, h⟩)

theorem Roms.app_of_unnamed (r : Roms) {c : Byte} (h : r.appNamed c = false) :
    Roms.app r c = LabelEntry.placeholder := by
  rw [Roms.app, Roms.named, h, Bool.and_false]; rfl

/-- Settles O11: outside the two ranges every code is a miss, and inside them APP_NAMED decides. -/
theorem applicationTableNamesOnlyItsRanges : Obligations.ApplicationTableNamesOnlyItsRanges := by
  intro r
  have outside : ∀ c : Byte, 33 < c.toNat ∧ c.toNat < 129 ∨ 131 < c.toNat → Roms.app r c = ⟨0, placeholderText⟩ :=
    fun c hc => Roms.app_of_outside r ((inAppRange_eq_false_iff c).2 hc)
  refine ⟨outside, outside 50 (by decide), fun c hc => ⟨fun h => ?named, fun h => ?unnamed⟩⟩
  case named =>
    rw [Roms.app_of_named r ((inAppRange_iff c).2 hc) h]
    exact namedEntry_isTableEntry _
  case unnamed => exact Roms.app_of_unnamed r h

end Sys2Proof.Machine
end

section
/-! What the code rows mean (44_code_tables.md R208, R281): a link row from its place in the table, an application row
from the code that decodes to it, and how a selected row stands to the operation before it. -/

namespace Sys2Proof.Machine

/-! ## Link rows -/

/-- The operand bits of a link row are bits 7, 5 and 4 of the control byte (R208). -/
theorem withLinkBits_eq_bitAt (row : Bit → Bit → Bit → Instr) (c : Byte) :
    withLinkBits row c = row (bitAt c 7) (bitAt c 5) (bitAt c 4) := by
  rw [← dirOf_eq_bitAt, ← fcbOf_eq_bitAt, ← fcvOf_eq_bitAt]; rfl

/-- The row of a control byte is the one whose pattern the byte shows under the mask 0x4F (R105, R281). -/
theorem findRow_of_masked {c shown : Byte} (hc : c &&& 0x4f = shown) :
    findRow linkRows c = (linkRows.find? fun r => shown == r.pattern).map fun r => r.make c := by
  have mask : ∀ r ∈ linkRows, r.mask = 0x4f := by decide
  have hits : ∀ r ∈ linkRows, r.hits c = (shown == r.pattern) := fun r hr => by rw [CodeRow.hits, mask r hr, hc]
  rw [findRow, List.find?_congr hits]

/-- A row that stands in the table at the pattern of a PRM and an FC is selected by that pattern, and writes the entry
LRESOLVE gives for them: it is the row of every control byte made of them. -/
theorem linkRowMeans_of_find {row : Bit → Bit → Bit → Instr} {mask pattern : Byte} {p : Bit} {fc : BitVec 4}
    (h : (linkRows.find? fun r => p.setWidth 8 <<< 6 ||| fc.setWidth 8 == r.pattern) =
      some ⟨mask, pattern, withLinkBits row⟩) :
    linkRowMeans row pattern (lresolve p fc) := by
  refine ⟨fun c hc => ?selection, fun d b v s => ?effect⟩
  case selection =>
    have hshown : p.setWidth 8 <<< 6 ||| fc.setWidth 8 = pattern := by simpa using List.find?_some h
    rw [decode, decodeIn, decodeLinkCtrl, findRow_of_masked (hc.trans hshown.symm), h]
    exact congrArg Decoded.ok (withLinkBits_eq_bitAt row c)
  case effect =>
    obtain ⟨row', hd, hexec⟩ := decode_linkCtrl (linkCtrlByte d p b v fc)
    cases hd.symm.trans (decodeIn_linkCtrlByte inAppRange h d b v)
    obtain ⟨hp, hfc⟩ := prmOf_fcOf_linkCtrlByte d p b v fc
    rw [hexec s, hp, hfc]; rfl

/-- A row of the primary table (PRM = 1), with what its ROM entry is known to be. -/
theorem primaryRow_means {row : Bit → Bit → Bit → Instr} {mask pattern : Byte} {fc : BitVec 4} {e : LabelEntry}
    (he : romPri fc = e)
    (h : (linkRows.find? fun r => (1 : Bit).setWidth 8 <<< 6 ||| fc.setWidth 8 == r.pattern) =
      some ⟨mask, pattern, withLinkBits row⟩) : linkRowMeans row pattern e := by
  rw [← he, ← lresolve_primary]
  exact linkRowMeans_of_find h

/-- A row of the secondary table (PRM = 0). -/
theorem secondaryRow_means {row : Bit → Bit → Bit → Instr} {mask pattern : Byte} {fc : BitVec 4}
    (h : (linkRows.find? fun r => (0 : Bit).setWidth 8 <<< 6 ||| fc.setWidth 8 == r.pattern) =
      some ⟨mask, pattern, withLinkBits row⟩) : linkRowMeans row pattern (romSec fc) := by
  rw [← lresolve_secondary]
  exact linkRowMeans_of_find h

/-- Settles O22: each row is found at its pattern, and O9 says what the fixed entries of ROM_PRI are. -/
theorem primaryRowsWriteTheirEntry : Obligations.PrimaryRowsWriteTheirEntry := by
  obtain ⟨unused, four, used⟩ := primaryTableHoldsWhatTheSourceFixes Config.roms
  refine ⟨primaryRow_means rfl rfl, primaryRow_means rfl rfl, primaryRow_means rfl rfl, primaryRow_means rfl rfl,
    primaryRow_means four rfl,
    primaryRow_means (unused 5 (by decide)) rfl, primaryRow_means (unused 6 (by decide)) rfl,
    primaryRow_means (unused 7 (by decide)) rfl, primaryRow_means (unused 8 (by decide)) rfl,
    primaryRow_means rfl rfl,
    primaryRow_means (unused 10 (by decide)) rfl, primaryRow_means (unused 11 (by decide)) rfl,
    primaryRow_means (unused 12 (by decide)) rfl, primaryRow_means (unused 13 (by decide)) rfl,
    primaryRow_means rfl rfl, primaryRow_means rfl rfl, fun i hi => ?assigned⟩
  case assigned =>
    obtain ⟨t, _, hentry⟩ := used i hi
    exact congrArg LabelEntry.assigned hentry

/-- Settles O23: each row is found at its pattern. -/
theorem secondaryRowsWriteTheirEntry : Obligations.SecondaryRowsWriteTheirEntry :=
  ⟨secondaryRow_means rfl, secondaryRow_means rfl, secondaryRow_means rfl, secondaryRow_means rfl,
    secondaryRow_means rfl, secondaryRow_means rfl, secondaryRow_means rfl, secondaryRow_means rfl,
    secondaryRow_means rfl, secondaryRow_means rfl, secondaryRow_means rfl, secondaryRow_means rfl,
    secondaryRow_means rfl, secondaryRow_means rfl, secondaryRow_means rfl, secondaryRow_means rfl⟩

/-! ## Application rows -/

/-- The row a code decodes to in the opcode table alone writes the code's entry of ROM_APP. -/
theorem appRow_means {row : Instr} {code : Byte} (h : decode .appFc [code] = .ok row) :
    appRowMeans row code (romApp code) :=
  ⟨h, exec_selected inAppRange_of_romNamed h⟩

/-- Settles O24: each code of the request range decodes to its row. -/
theorem requestRowsWriteTheirEntry : Obligations.RequestRowsWriteTheirEntry :=
  ⟨appRow_means rfl, appRow_means rfl, appRow_means rfl, appRow_means rfl, appRow_means rfl, appRow_means rfl,
    appRow_means rfl, appRow_means rfl, appRow_means rfl, appRow_means rfl, appRow_means rfl, appRow_means rfl,
    appRow_means rfl, appRow_means rfl, appRow_means rfl, appRow_means rfl, appRow_means rfl, appRow_means rfl,
    appRow_means rfl, appRow_means rfl, appRow_means rfl, appRow_means rfl, appRow_means rfl, appRow_means rfl,
    appRow_means rfl, appRow_means rfl, appRow_means rfl, appRow_means rfl, appRow_means rfl, appRow_means rfl,
    appRow_means rfl, appRow_means rfl, appRow_means rfl, appRow_means rfl⟩

/-- The default row stands for every code outside the two ranges (R279). -/
theorem wellFormed_afcUnassigned_of_outside {c : Byte} (h : inAppRange c = false) :
    (Instr.afcUnassigned c).wellFormed = true := by
  rw [Instr.wellFormed, Instr.wellFormedIn, h]; rfl

/-- Settles O25: the response codes decode to their rows, and a code outside the two ranges to AFC_UNASSIGNED, where
ROM_APP misses. -/
theorem responseAndDefaultRowsWriteTheirEntry : Obligations.ResponseAndDefaultRowsWriteTheirEntry := by
  refine ⟨appRow_means rfl, appRow_means rfl, appRow_means rfl, fun c hc => ?unassigned⟩
  case unassigned =>
    have hout : inAppRange c = false := (inAppRange_eq_false_iff c).2 hc
    have hmiss : romApp c = ⟨0, placeholderText⟩ := Roms.app_of_outside Config.roms hout
    rw [← hmiss]
    exact appRow_means (decodeIn_unassigned (wellFormed_afcUnassigned_of_outside hout))

/-! ## The selected row after its operation -/

/-- Writing back the label that stood in DL_LBL restores the state. -/
theorem State.setDlLbl_restores {s : State} {e : LabelEntry} (h : s.record.dlLbl = e) (e' : LabelEntry) :
    (s.setDlLbl e').setDlLbl e = s := by
  subst h; rfl

/-- Writing back the label that stood in AP_LBL restores the state. -/
theorem State.setApLbl_restores {s : State} {e : LabelEntry} (h : s.record.apLbl = e) (e' : LabelEntry) :
    (s.setApLbl e').setApLbl e = s := by
  subst h; rfl

/-- The label LINK writes is the one LRESOLVE gives for the control byte it read (41_link.md R143). -/
theorem exec_link_dlLbl {s t : State} (h : exec .link s = .next t) :
    t.record.dlLbl = lresolve (prmOf (byteAt s 3)) (fcOf (byteAt s 3)) := by
  obtain ⟨_, rfl⟩ := exec_link_next h
  rfl

/-- The label APP writes is the one ARESOLVE gives for the function byte it read (43_application.md R172). -/
theorem exec_app_apLbl {s t : State} (hn : 13 ≤ s.flen) (h : exec .app s = .next t) :
    t.record.apLbl = aresolve (byteAt s 12) := by
  rcases exec_app_cases s with ⟨hshort, _⟩ | ⟨_, he⟩
  · exact absurd hn (Nat.not_le.2 hshort)
  · cases he.symm.trans h
    rfl

/-- Settles O26: the operation and the row its code byte selects write the same lookup. -/
theorem theSelectedRowWritesTheLabelOfItsOperation : Obligations.TheSelectedRowWritesTheLabelOfItsOperation := by
  refine ⟨fun s t row e hd he => ?link, fun s t row e hn hd he => ?app⟩
  case link =>
    obtain ⟨row', hd', hexec⟩ := decode_linkCtrl (byteAt s 3)
    cases hd'.symm.trans hd
    exact (hexec _).trans (congrArg _ (State.setDlLbl_restores (exec_link_dlLbl he) e))
  case app =>
    have hexec := exec_selected inAppRange_of_romNamed hd
    exact (hexec _).trans (congrArg _ (State.setApLbl_restores (exec_app_apLbl hn he) e))

end Sys2Proof.Machine
end

section
/-! START and the step it leads to (45_control.md R301, R302): a step is the operation STAGE names, with the code row the
frame selects or without it (log 2), and HOST takes the record in IDLE alone (R311). -/

namespace Sys2Proof.Machine

/-! ## START -/

/-- Settles O16: the two cases of START. -/
theorem startBeginsATransactionOnlyInIdle : Obligations.StartBeginsATransactionOnlyInIdle := by
  intro s
  rcases exec_start_cases s with ⟨hidle, he⟩ | ⟨hbusy, he⟩
  · exact ⟨fun _ => he, fun hbusy => absurd hidle hbusy⟩
  · exact ⟨fun hidle => absurd hidle hbusy, fun _ => he⟩

/-- An accepted START. -/
theorem step_start {s : State} {w : Byte} {rest : List HostMove} (hs : s.stage = .idle) (hw : w &&& 0x01 = 0x01)
    (hm : s.host = .writeCmd w :: rest) :
    step s = .next { s with host := rest, stage := .validate, result := .none, record := Record.cleared } := by
  obtain ⟨hstart, _⟩ := commandWritesRunStartOrNothing s w rest hm
  obtain ⟨haccepted, _⟩ := startBeginsATransactionOnlyInIdle { s with host := rest }
  exact (hstart hw).trans (haccepted hs)

/-! ## The operation a step runs -/

theorem parserStep_eq_runAll_fetchRow {s : State} {i : Instr} (h : decode .stage [s.stage.code.setWidth 8] = .ok i) :
    parserStep s = runAll (i :: fetchRow s) s := by
  rw [parserStep, fetch, fetchStage, h]
  rfl

/-- Settles O30: what a step fetches is the operation and its row, and neither depends on HOST's moves. -/
theorem stepRunsTheDecodedOperationAndItsRow : Obligations.StepRunsTheDecodedOperationAndItsRow := by
  refine ⟨fun s i hhost hi => ?silent, fun s i rest hhost hi => ?quiet, fun s hhost hidle => ?rests⟩
  case silent => exact (step_of_host_nil hhost).trans (parserStep_eq_runAll_fetchRow hi)
  case quiet => exact (step_of_host_cons hhost).trans (parserStep_eq_runAll_fetchRow (s := { s with host := rest }) hi)
  case rests => exact (step_of_host_nil hhost).trans (parserStep_idle hidle)

theorem fetchStage_idle {s : State} (h : s.stage = .idle) : fetchStage s = [] := by
  rw [fetchStage, h]; rfl

theorem fetchStage_of_decode {s : State} {i : Instr} (h : decode .stage [s.stage.code.setWidth 8] = .ok i) :
    fetchStage s = [i] := by
  rw [fetchStage, h]; rfl

/-- PARSER's step is the operation STAGE names: the label its code row writes stands there already (log 2). -/
theorem parserStep_eq_exec {s : State} {i : Instr} (h : decode .stage [s.stage.code.setWidth 8] = .ok i) :
    parserStep s = exec i s := by
  have hfetch := fetchStage_of_decode h
  cases hs : s.stage with
  | idle => cases (fetchStage_idle hs).symm.trans hfetch
  | validate =>
    cases (fetchStage_validate hs).symm.trans hfetch
    exact parserStep_validate hs
  | link =>
    cases (fetchStage_link hs).symm.trans hfetch
    exact parserStep_link hs
  | transport =>
    cases (fetchStage_transport hs).symm.trans hfetch
    exact parserStep_transport hs
  | app =>
    cases (fetchStage_app hs).symm.trans hfetch
    exact parserStep_app hs

/-- Settles O32: with HOST silent the step is PARSER's. -/
theorem stepIsExactlyTheStageOperation : Obligations.StepIsExactlyTheStageOperation :=
  fun _ _ hhost hi => (step_of_host_nil hhost).trans (parserStep_eq_exec hi)

/-! ## HOST's reads of the record -/

theorem readFrame_eq_some_iff (s : State) (r : Record) :
    readFrame s = some r ↔ s.stage = .idle ∧ s.result = .ok ∧ r = s.record := by
  unfold readFrame
  split
  case isTrue h =>
    obtain ⟨hidle, hok⟩ := h
    simp [hidle, hok, eq_comm]
  case isFalse h => exact ⟨nofun, fun ⟨hidle, hok, _⟩ => absurd ⟨hidle, hok⟩ h⟩

/-- Settles O42: the two sides of the test of STAGE and RESULT, and in IDLE no read is a free value. -/
theorem aFrameIsReadOnlyAfterSuccess : Obligations.AFrameIsReadOnlyAfterSuccess :=
  fun s => ⟨readFrame_eq_some_iff s, fun _ _ hidle => if_pos hidle⟩

end Sys2Proof.Machine
end

section
/-! A whole transaction as HOST sees it: the image of DECODE after START and four steps (45_control.md R307, R308), and
the same for the whole correct use of the block, the frame's bytes and its length written first
(70_reset_and_hazards.md R364, R365). -/

namespace Sys2Proof.Machine

/-! ## START and four steps -/

/-- From IDLE the image of a result changes RESULT and the record alone. -/
theorem State.withImage_awaiting_of_idle {s : State} (hs : s.stage = .idle) (d : FrameResult) (rest : List HostMove) :
    (s.withImage d).awaiting 0 rest = { s with host := rest, result := d.result, record := d.record } := by
  obtain ⟨record, stage, result, flen, fb, host⟩ := s
  cases hs
  rfl

/-- Settles O47, from the run of a whole transaction. -/
theorem startAndFourStepsDecodeTheBuffer : Obligations.StartAndFourStepsDecodeTheBuffer := by
  intro s w rest hs hw hm
  rw [runSteps_startAndWait rest hs hw hm, State.withImage_awaiting_of_idle hs]

/-! ## Runs one after the other -/

theorem runSteps_add_of_next {j : Nat} {t : State} (k : Nat) :
    ∀ {s : State}, runSteps j s = .next t → runSteps (j + k) s = runSteps k t := by
  induction j with
  | zero =>
    intro s h
    cases h
    rw [Nat.zero_add]
  | succ j ih =>
    intro s h
    rw [Nat.succ_add]
    cases hstep : step s with
    | next u =>
      rw [runSteps_succ_next hstep] at h ⊢
      exact ih h
    | fault r => simp [runSteps, hstep] at h
    | refused r => simp [runSteps, hstep] at h

/-- A run that ends in a next state goes on with one more step. -/
theorem runSteps_succ_of_next {j : Nat} {s t u : State} (h : runSteps j s = .next t) (hstep : step t = .next u) :
    runSteps (j + 1) s = .next u :=
  (runSteps_add_of_next 1 h).trans (runSteps_succ_next hstep 0)

/-! ## HOST writes a frame -/

/-- Placing bytes from an offset on leaves the offsets below it alone. -/
theorem byteAt_writeAll_below (bytes : List Byte) {a x : Nat} (hx : x < a) : ∀ {s t : State},
    t.fb = s.fb.writeAll a bytes → byteAt t x = byteAt s x := by
  induction bytes generalizing a with
  | nil => exact fun h => byteAt_congr h x
  | cons b bs ih =>
    intro s t h
    have hfirst : byteAt { s with fb := s.fb.write a b } x = byteAt s x := byteAt_write_other rfl (Nat.ne_of_lt hx)
    exact (ih (Nat.lt_succ_of_lt hx) (s := { s with fb := s.fb.write a b }) h).trans hfirst

/-- Placing bytes from an offset on puts byte `i` at the `i`-th offset from there, and leaves those beyond the last one
alone. -/
theorem byteAt_writeAll_from (bytes : List Byte) (i : Nat) : ∀ {a : Nat} {s t : State},
    t.fb = s.fb.writeAll a bytes → byteAt t (a + i) = bytes.getD i (byteAt s (a + i)) := by
  induction bytes generalizing i with
  | nil => exact fun h => byteAt_congr h _
  | cons b bs ih =>
    intro a s t h
    cases i with
    | zero =>
      have hlater := byteAt_writeAll_below bs (Nat.lt_succ_self a) (s := { s with fb := s.fb.write a b }) h
      exact hlater.trans (byteAt_write_self rfl)
    | succ i =>
      have hfirst : byteAt { s with fb := s.fb.write a b } (a + 1 + i) = byteAt s (a + 1 + i) :=
        byteAt_write_other rfl (by omega)
      have hrest := ih i (s := { s with fb := s.fb.write a b }) h
      rwa [hfirst, Nat.succ_add_eq_add_succ] at hrest

/-- A frame placed at offset 0 is the buffer the frame literal stands for (30_encoding.md R114). -/
theorem byteAt_writeAll_zero {s t : State} {frame : List Byte} (h : t.fb = s.fb.writeAll 0 frame) :
    byteAt t = frameBytes frame (byteAt s) := by
  funext a
  have hbyte := byteAt_writeAll_from frame a h
  rwa [Nat.zero_add] at hbyte

theorem step_writeByte_idle {s : State} {a : Nat} {b : Byte} {rest : List HostMove} (hs : s.stage = .idle)
    (hm : s.host = .writeByte a b :: rest) : step s = .next { s with host := rest, fb := s.fb.write a b } := by
  rw [step_of_host_cons hm, applyMove]
  rcases hostWriteByte_cases (a := a) (b := b) (s := { s with host := rest }) with ⟨htaken, _⟩ | ⟨_, hbusy, _⟩
  · exact htaken
  · exact absurd hs hbusy

/-- In IDLE all of HOST's writes of a frame's bytes are taken. -/
theorem runSteps_writeFrom (bytes : List Byte) : ∀ {a : Nat} {s : State} {rest : List HostMove}, s.stage = .idle →
    s.host = writeFrom a bytes ++ rest →
    runSteps bytes.length s = .next { s with host := rest, fb := s.fb.writeAll a bytes } := by
  induction bytes with
  | nil =>
    rintro a s rest - rfl
    rfl
  | cons b bs ih =>
    intro a s rest hs hm
    exact (runSteps_succ_next (step_writeByte_idle hs hm) bs.length).trans (ih hs rfl)

/-- The state from which HOST's START decodes a frame: its bytes and its length are written. -/
def State.withFrame (s : State) (frame : List Byte) (moves : List HostMove) : State :=
  { s with host := moves, fb := s.fb.writeAll 0 frame, flen := frame.length }

/-- HOST's writes of a frame and of FLEN (70_reset_and_hazards.md R364). -/
theorem runSteps_writeFrame {s : State} {frame : List Byte} {moves : List HostMove} (hs : s.stage = .idle)
    (hlen : frame.length ≤ Config.fbMax) (hm : s.host = writeFrom 0 frame ++ .writeLen frame.length :: moves) :
    runSteps (frame.length + 1) s = .next (s.withFrame frame moves) := by
  obtain ⟨htaken, _⟩ := hostLengthWriteIsBoundedByFbMax
    { s with host := .writeLen frame.length :: moves, fb := s.fb.writeAll 0 frame } frame.length moves rfl hs
  exact runSteps_succ_of_next (runSteps_writeFrom frame hs hm) (htaken hlen)

/-- Settles O53: once the frame is written the state is one of those START and four steps decode, and its buffer is the
frame's. -/
theorem writingAFrameAndStartingDecodesIt : Obligations.WritingAFrameAndStartingDecodesIt := by
  intro s frame rest hs hlen hm
  have hmoves : s.host = writeFrom 0 frame ++ .writeLen frame.length :: startAndWait 0x01 rest := by
    rw [hm, transactionScript, List.append_assoc]; rfl
  have hrun : runSteps (frame.length + 6) s = runSteps 5 (s.withFrame frame (startAndWait 0x01 rest)) :=
    runSteps_add_of_next 5 (runSteps_writeFrame hs hlen hmoves)
  have hbytes : byteAt (s.withFrame frame (startAndWait 0x01 rest)) = frameBytes frame (byteAt s) :=
    byteAt_writeAll_zero rfl
  have hend := hrun.trans (startAndFourStepsDecodeTheBuffer _ 0x01 rest hs (by decide) rfl)
  rw [hbytes] at hend
  exact ⟨_, hend, hs, rfl, rfl, congrFun hbytes, rfl, rfl⟩

end Sys2Proof.Machine
end

section
/-! How long a transaction takes with HOST silent (45_control.md R308, R310): STAGE moves towards IDLE by each step, and
FLEN and the marker decide where the way ends. -/

namespace Sys2Proof.Machine

/-! ## Every stage is at most four steps from IDLE -/

/-- The longest way from a stage to IDLE along R31's moves. -/
def Stage.stepsLeft : Stage → Nat
  | .idle => 0
  | .validate => 4
  | .link => 3
  | .transport => 2
  | .app => 1

theorem Stage.stepsLeft_le_four (v : Stage) : v.stepsLeft ≤ 4 := by cases v <;> decide

theorem Stage.stepsLeft_eq_zero {v : Stage} (h : v.stepsLeft = 0) : v = .idle := by
  cases v with
  | idle => rfl
  | validate | link | transport | app => cases h

/-- Each of R31's moves out of a stage shortens the way. -/
theorem stepsLeft_lt_of_stageMoves {a b : Stage} (h : stageMoves a b) (ha : a ≠ .idle) :
    b.stepsLeft < a.stepsLeft := by
  cases a with
  | idle => exact absurd rfl ha
  | validate => rcases h with rfl | rfl <;> decide
  | link => cases h; decide
  | transport => rcases h with rfl | rfl <;> decide
  | app => cases h; decide

/-- Under the invariant PARSER's step gives a next state: LINK's reads are inside the buffer. -/
theorem parserStep_next_of_inv {s : State} (hi : Inv s) : ∃ t, parserStep s = .next t := by
  obtain ⟨_, _, hstage⟩ := hi
  cases hs : s.stage with
  | idle => exact ⟨_, parserStep_idle hs⟩
  | validate =>
    rw [parserStep_validate hs]
    rcases exec_validate_cases s with ⟨_, he⟩ | ⟨_, _, he⟩ | ⟨_, _, he⟩ <;> exact ⟨_, he⟩
  | link =>
    obtain ⟨_, _, hlong, _⟩ := (stageInvariant_link hs).1 hstage
    exact ⟨_, (parserStep_link hs).trans (exec_link_long hlong)⟩
  | transport =>
    rw [parserStep_transport hs]
    rcases exec_transport_cases s with ⟨_, he⟩ | ⟨_, he⟩ <;> exact ⟨_, he⟩
  | app =>
    rw [parserStep_app hs]
    rcases exec_app_cases s with ⟨_, he⟩ | ⟨_, he⟩ <;> exact ⟨_, he⟩

/-- From a state with the invariant and HOST silent, PARSER reaches IDLE along the way that is left. -/
theorem runSteps_reaches_idle (n : Nat) : ∀ {s : State}, Inv s → s.host = [] → s.stage.stepsLeft ≤ n →
    ∃ k t, k ≤ n ∧ runSteps k s = .next t ∧ t.stage = .idle := by
  induction n with
  | zero => exact fun _ _ hn => ⟨0, _, le_rfl, rfl, Stage.stepsLeft_eq_zero (Nat.le_zero.1 hn)⟩
  | succ n ih =>
    intro s hi hhost hn
    by_cases hidle : s.stage = .idle
    · exact ⟨0, s, Nat.zero_le _, rfl, hidle⟩
    · obtain ⟨u, hu⟩ := parserStep_next_of_inv hi
      have heffect := parserStep_effect hu
      obtain ⟨_, _, hhost'⟩ := heffect.frame
      have hcloser := stepsLeft_lt_of_stageMoves heffect.stageMoves hidle
      obtain ⟨k, t, hk, hrun, ht⟩ := ih (heffect.inv hi) (hhost'.trans hhost) (by omega)
      exact ⟨k + 1, t, Nat.succ_le_succ hk,
        (runSteps_succ_next ((step_of_host_nil hhost).trans hu) k).trans hrun, ht⟩

/-- Settles O46: no stage is more than four steps from IDLE. -/
theorem everyTransactionEndsWithinFourSteps : Obligations.EveryTransactionEndsWithinFourSteps :=
  fun s hi hhost => runSteps_reaches_idle 4 hi hhost s.stage.stepsLeft_le_four

/-! ## Where FLEN and the marker lead -/

/-- After `k` steps HOST has no move left, STAGE is `v`, and the buffer and FLEN are as they were. -/
def Arrives (s : State) (k : Nat) (v : Stage) : Prop :=
  ∃ t, runSteps k s = .next t ∧ t.stage = v ∧ t.host = [] ∧ t.fb = s.fb ∧ t.flen = s.flen

namespace Arrives

variable {s : State} {k : Nat}

theorem exists_stage {v : Stage} (h : Arrives s k v) : ∃ t, runSteps k s = .next t ∧ t.stage = v := by
  obtain ⟨t, hrun, ht, _⟩ := h
  exact ⟨t, hrun, ht⟩

/-- One more step is the operation of the stage reached, which leaves the buffer, FLEN and HOST's moves alone. -/
theorem next {v v' : Stage} {i : Instr} (h : Arrives s k v) (hi : decode .stage [v.code.setWidth 8] = .ok i)
    (he : ∀ t : State, t.fb = s.fb → t.flen = s.flen → ∃ u, exec i t = .next u ∧ u.stage = v') :
    Arrives s (k + 1) v' := by
  obtain ⟨t, hrun, rfl, hhost, hfb, hflen⟩ := h
  obtain ⟨u, hu, hstage⟩ := he t hfb hflen
  obtain ⟨hfb', hflen', hhost'⟩ := exec_frame hu
  have hstep : step t = .next u := (stepIsExactlyTheStageOperation t i hhost hi).trans hu
  exact ⟨u, runSteps_succ_of_next hrun hstep, hstage, hhost'.trans hhost, hfb'.trans hfb, hflen'.trans hflen⟩

theorem start {w : Byte} (hs : s.stage = .idle) (hw : w &&& 0x01 = 0x01) (hm : s.host = [.writeCmd w]) :
    Arrives s 1 .validate :=
  ⟨_, runSteps_succ_next (step_start hs hw hm) 0, rfl, rfl, rfl, rfl⟩

theorem validate_fails (h : Arrives s k .validate) (hbad : s.flen < 10 ∨ byteAt s 0 ≠ 0x05 ∨ byteAt s 1 ≠ 0x64) :
    Arrives s (k + 1) .idle := by
  refine h.next rfl fun t hfb hflen => ?_
  rw [← hflen, ← byteAt_congr hfb 0, ← byteAt_congr hfb 1, ← be16_ne_startMarker_iff] at hbad
  rcases exec_validate_cases t with ⟨_, he⟩ | ⟨_, _, he⟩ | ⟨hn, hm, _⟩
  · exact ⟨_, he, rfl⟩
  · exact ⟨_, he, rfl⟩
  · exact absurd hbad (not_or.2 ⟨Nat.not_lt.2 hn, not_not.2 hm⟩)

theorem validate_passes (h : Arrives s k .validate) (hn : 10 ≤ s.flen) (h0 : byteAt s 0 = 0x05)
    (h1 : byteAt s 1 = 0x64) : Arrives s (k + 1) .link := by
  refine h.next rfl fun t hfb hflen => ?_
  obtain ⟨hpass, _⟩ := validateTestsLengthThenMarker t
  rw [hflen, byteAt_congr hfb, byteAt_congr hfb] at hpass
  exact ⟨_, hpass hn h0 h1, rfl⟩

theorem link_passes (h : Arrives s k .link) (hn : 10 ≤ s.flen) : Arrives s (k + 1) .transport :=
  h.next rfl fun t _ hflen => ⟨_, exec_link_long (s := t) (hflen ▸ hn), rfl⟩

theorem transport_fails (h : Arrives s k .transport) (hn : s.flen < 11) : Arrives s (k + 1) .idle := by
  refine h.next rfl fun t _ hflen => ?_
  rcases exec_transport_cases t with ⟨_, he⟩ | ⟨hlong, _⟩
  · exact ⟨_, he, rfl⟩
  · omega

theorem transport_passes (h : Arrives s k .transport) (hn : 11 ≤ s.flen) : Arrives s (k + 1) .app := by
  refine h.next rfl fun t _ hflen => ?_
  rcases exec_transport_cases t with ⟨hshort, _⟩ | ⟨_, he⟩
  · omega
  · exact ⟨_, he, rfl⟩

/-- APP ends the transaction whichever way its length test goes. -/
theorem app_ends (h : Arrives s k .app) : Arrives s (k + 1) .idle := by
  refine h.next rfl fun t _ _ => ?_
  rcases exec_app_cases t with ⟨_, he⟩ | ⟨_, he⟩ <;> exact ⟨_, he, rfl⟩

end Arrives

/-- Settles O48: START leads to VALIDATE, and the length and marker tests choose the way from there. -/
theorem stepsATransactionTakes : Obligations.StepsATransactionTakes := by
  intro s hs hm
  have hvalidate : Arrives s 1 .validate := .start hs (by decide) hm
  refine ⟨fun hbad => ?fails, fun hn h0 h1 => ?linkOnly, fun hn h0 h1 => ?further⟩
  case fails => exact (hvalidate.validate_fails hbad).exists_stage
  case linkOnly =>
    have htransport := (hvalidate.validate_passes hn.ge h0 h1).link_passes hn.ge
    exact ⟨htransport.exists_stage, (htransport.transport_fails (by omega)).exists_stage⟩
  case further =>
    have hten : 10 ≤ s.flen := by omega
    have happ := ((hvalidate.validate_passes hten h0 h1).link_passes hten).transport_passes hn
    exact ⟨happ.exists_stage, happ.app_ends.exists_stage⟩

end Sys2Proof.Machine
end

section
/-! Failures (60_exceptions.md). Raising one leaves the parser at rest without a record (R330), an operation that
fails does so by raising one, and FLEN and the marker alone decide which result a transaction ends with (R321, R322,
R327). -/

namespace Sys2Proof.Machine

/-! ## Raising a failure -/

/-- Settles O21: the two RESULT values are those of the two kinds (R320), and every other register stays as it was. -/
theorem raisingAFailureClearsTheRecord : Obligations.RaisingAFailureClearsTheRecord :=
  fun _ => ⟨rfl, rfl⟩

/-- VALIDATE, TRANSPORT and APP answer in two ways: they raise a failure, or they pass, to the next stage or to OK. -/
theorem exec_raises_or_passes {i : Instr} (hi : i = .validate ∨ i = .transport ∨ i = .app) (s : State) :
    (∃ k, exec i s = .next (s.raiseFailure k)) ∨ ∃ t, exec i s = .next t ∧ (t.stage ≠ .idle ∨ t.result = .ok) := by
  rcases hi with rfl | rfl | rfl
  · rcases exec_validate_cases s with ⟨_, he⟩ | ⟨_, _, he⟩ | ⟨_, _, he⟩
    · exact .inl ⟨_, he⟩
    · exact .inl ⟨_, he⟩
    · exact .inr ⟨_, he, .inl nofun⟩
  · rcases exec_transport_cases s with ⟨_, he⟩ | ⟨_, he⟩
    · exact .inl ⟨_, he⟩
    · exact .inr ⟨_, he, .inl nofun⟩
  · rcases exec_app_cases s with ⟨_, he⟩ | ⟨_, he⟩
    · exact .inl ⟨_, he⟩
    · exact .inr ⟨_, he, .inr rfl⟩

/-- Settles O29: an answer in IDLE with a failure result is not a passing one, so it was raised. -/
theorem failedOperationsLeaveNoRecord : Obligations.FailedOperationsLeaveNoRecord := by
  intro i s t hi h hfailed hidle
  rcases exec_raises_or_passes hi s with ⟨k, he⟩ | ⟨u, he, hpass⟩ <;> cases he.symm.trans h
  case inl => exact s.raiseFailure_record k
  case inr =>
    have hok : t.result = .ok := hpass.resolve_left (not_not.2 hidle)
    rw [hok] at hfailed
    exact absurd hfailed (by decide)

/-! ## The result of a transaction -/

/-- The four ends of DECODE (45_control.md R307), by the length and the two marker bytes. -/
theorem decodeFrame_result_cases (fb : Nat → Byte) (n : Nat) :
    (n < 10 ∧ (decodeFrame fb n).result = .frameTooShort) ∨
      (10 ≤ n ∧ (fb 0 ≠ 0x05 ∨ fb 1 ≠ 0x64) ∧ (decodeFrame fb n).result = .notDnp3) ∨
      (10 ≤ n ∧ n < 13 ∧ (fb 0 = 0x05 ∧ fb 1 = 0x64) ∧ (decodeFrame fb n).result = .frameTooShort) ∨
      (13 ≤ n ∧ (fb 0 = 0x05 ∧ fb 1 = 0x64) ∧ (decodeFrame fb n).result = .ok) := by
  rcases Nat.lt_or_ge n 10 with hn | hn
  · exact .inl ⟨hn, by rw [decodeFrame_short fb hn]; rfl⟩
  by_cases hm : be16 (fb 0) (fb 1) = startMarker
  · have hmarked := (be16_eq_startMarker_iff _ _).1 hm
    have hdecoded := decodeFrame_marked hn hm
    rcases Nat.lt_or_ge n 13 with hshort | hlong
    · exact .inr (.inr (.inl ⟨hn, hshort, hmarked, by rw [hdecoded, lengthResult_short hshort]; rfl⟩))
    · exact .inr (.inr (.inr ⟨hlong, hmarked, by rw [hdecoded, lengthResult_long hlong]; rfl⟩))
  · exact .inr (.inl ⟨hn, (be16_ne_startMarker_iff _ _).1 hm, by rw [decodeFrame_foreign hn hm]; rfl⟩)

theorem decodeFrame_frameTooShort_iff (fb : Nat → Byte) (n : Nat) :
    (decodeFrame fb n).result = .frameTooShort ↔ n < 10 ∨ (n < 13 ∧ fb 0 = 0x05 ∧ fb 1 = 0x64) := by
  rcases decodeFrame_result_cases fb n with ⟨hn, hr⟩ | ⟨hn, hforeign, hr⟩ | ⟨_, hn, hm, hr⟩ | ⟨hn, _, hr⟩ <;> rw [hr]
  · exact iff_of_true rfl (.inl hn)
  · exact iff_of_false nofun (not_or.2 ⟨Nat.not_lt.2 hn, fun ⟨_, hm⟩ => not_and_or.2 hforeign hm⟩)
  · exact iff_of_true rfl (.inr ⟨hn, hm⟩)
  · exact iff_of_false nofun (by omega)

theorem decodeFrame_notDnp3_iff (fb : Nat → Byte) (n : Nat) :
    (decodeFrame fb n).result = .notDnp3 ↔ 10 ≤ n ∧ (fb 0 ≠ 0x05 ∨ fb 1 ≠ 0x64) := by
  rcases decodeFrame_result_cases fb n with ⟨hn, hr⟩ | ⟨hn, hforeign, hr⟩ | ⟨_, _, hm, hr⟩ | ⟨_, hm, hr⟩ <;> rw [hr]
  · exact iff_of_false nofun fun ⟨hten, _⟩ => Nat.not_lt.2 hten hn
  · exact iff_of_true rfl ⟨hn, hforeign⟩
  · exact iff_of_false nofun fun ⟨_, hforeign⟩ => not_and_or.2 hforeign hm
  · exact iff_of_false nofun fun ⟨_, hforeign⟩ => not_and_or.2 hforeign hm

theorem decodeFrame_ok_iff (fb : Nat → Byte) (n : Nat) :
    (decodeFrame fb n).result = .ok ↔ 13 ≤ n ∧ fb 0 = 0x05 ∧ fb 1 = 0x64 := by
  rcases decodeFrame_result_cases fb n with ⟨hn, hr⟩ | ⟨_, hforeign, hr⟩ | ⟨_, hn, _, hr⟩ | ⟨hn, hm, hr⟩ <;> rw [hr]
  · exact iff_of_false nofun (by omega)
  · exact iff_of_false nofun fun ⟨_, hm⟩ => not_and_or.2 hforeign hm
  · exact iff_of_false nofun (by omega)
  · exact iff_of_true rfl ⟨hn, hm⟩

/-- Settles O50: the transaction ends with the image of DECODE (45_control.md R308), whose result the three equivalences
decide. -/
theorem exactlyWhenEachResultEndsATransaction : Obligations.ExactlyWhenEachResultEndsATransaction :=
  fun _ _ rest hs hw hm =>
    ⟨_, runSteps_startAndWait rest hs hw hm, decodeFrame_frameTooShort_iff _ _, decodeFrame_notDnp3_iff _ _,
      decodeFrame_ok_iff _ _⟩

end Sys2Proof.Machine
end

section
/-! Reset and hazards (70_reset_and_hazards.md R360, R370): reset at any time, and what HOST may do to the buffer and
FLEN while a transaction runs. A change of what PARSER reads is refused; a write of the value that stands there is no change
(log 10). -/

namespace Sys2Proof.Machine

/-- Settles O36: reset is a move like any other, and no stage holds it back. -/
theorem resetClearsAllButTheBuffer : Obligations.ResetClearsAllButTheBuffer :=
  fun s rest hm => (step_of_host_cons hm).trans (hostReset_eq { s with host := rest })

/-! ## Changes during a transaction -/

theorem hostWriteByte_refused {s : State} {a : Nat} {b : Byte} (hbusy : s.stage ≠ .idle) (hlow : a < 13)
    (hchange : s.fb.read? a ≠ some b) : hostWriteByte a b s = .refused .bufferChangedDuringTransaction := by
  rcases hostWriteByte_cases (a := a) (b := b) (s := s) with ⟨_, hfree⟩ | ⟨hrefused, _⟩
  · exact absurd ⟨hbusy, hlow, hchange⟩ hfree
  · exact hrefused

theorem hostWriteLen_refused {s : State} {n : Nat} (hbusy : s.stage ≠ .idle) (hchange : n ≠ s.flen) :
    hostWriteLen n s = .refused .bufferChangedDuringTransaction :=
  if_pos (by simp [State.busy, hbusy, hchange])

/-- Settles O40: of the two treatments R370 offers the model refuses, for a byte PARSER may read and for FLEN. -/
theorem changingTheBufferDuringATransactionIsRefused : Obligations.ChangingTheBufferDuringATransactionIsRefused := by
  intro s rest hbusy
  refine ⟨fun a b hm hlow hchange => ?byte, fun n hm hchange => ?length⟩
  case byte =>
    exact (step_of_host_cons hm).trans
      (hostWriteByte_refused (s := { s with host := rest }) hbusy hlow hchange)
  case length => exact (step_of_host_cons hm).trans (hostWriteLen_refused (s := { s with host := rest }) hbusy hchange)

/-! ## Writes of the value that stands there -/

theorem hostWriteByte_same {s : State} {a : Nat} {b : Byte} (h : s.fb.read? a = some b) :
    hostWriteByte a b s = .next { s with fb := s.fb.write a b } := by
  rcases hostWriteByte_cases (a := a) (b := b) (s := s) with ⟨htaken, _⟩ | ⟨_, _, _, hchange⟩
  · exact htaken
  · exact absurd h hchange

/-- Every byte of the buffer reads as before, the one written again included. -/
theorem byteAt_write_same {s t : State} {a : Nat} {b : Byte} (h : s.fb.read? a = some b) (ht : t.fb = s.fb.write a b)
    (a' : Nat) : byteAt t a' = byteAt s a' := by
  by_cases ha : a' = a
  · rw [ha, byteAt_write_self ht, byteAt_of_read h]
  · exact byteAt_write_other ht ha

theorem hostWriteLen_same {s : State} (h : s.flen ≤ Config.fbMax) : hostWriteLen s.flen s = .next s := by
  have hunchanged : ¬ (s.busy && s.flen != s.flen) = true := by simp
  exact (if_neg hunchanged).trans (if_neg (Nat.not_lt.2 h))

/-- Settles O59: a write that changes nothing passes the test of R370 in every stage. -/
theorem rewritingTheSameValueDuringATransactionIsTaken :
    Obligations.RewritingTheSameValueDuringATransactionIsTaken := by
  refine ⟨fun s a b rest hm hsame => ?byte, fun s rest hm hmax => ?length⟩
  case byte =>
    have htaken : step s = .next { s with host := rest, fb := s.fb.write a b } :=
      (step_of_host_cons hm).trans (hostWriteByte_same (s := { s with host := rest }) hsame)
    exact ⟨_, htaken, byteAt_write_same hsame rfl, rfl, rfl, rfl, rfl, rfl⟩
  case length => exact (step_of_host_cons hm).trans (hostWriteLen_same (s := { s with host := rest }) hmax)

end Sys2Proof.Machine
end
